-- ==== Sys2Proof/Word.lean ====
section
/-! DEFINITION. The word types of the block: op words and their two bytes, frame bytes, status words. -/

namespace Sys2Proof

/-- One byte: a frame byte, or half an op word in the ROM. -/
abbrev Byte := BitVec 8

/-- One op word of the microprogram (30_encoding.md R80). -/
abbrev OpWord := BitVec 16

/-- One word of the status view (10_state.md R46). -/
abbrev StatWord := BitVec 32

/-- The two bytes of an op word, least significant first. -/
abbrev OpWord.lo (w : OpWord) : Byte := w.extractLsb' 0 8

/-- The more significant byte of an op word. -/
abbrev OpWord.hi (w : OpWord) : Byte := w.extractLsb' 8 8

end Sys2Proof
end

