-- ==== Sys2Proof/Syntax.lean ====
section
/-! DEFINITION. The micro-operations: one constructor for each row of spec/opcode_table.json, and the
operands they take. An operand's type admits exactly the values 30_encoding.md R82 gives it. -/

namespace Sys2Proof

/-- A window selector (30_encoding.md R82). -/
inductive Win where
  /-- `w = 0`: humidity, whole percent. -/
  | hum
  /-- `w = 1`: temperature, tenths of a degree Fahrenheit. -/
  | temp
  /-- `w = 2`: mapped water level. -/
  | water
  deriving DecidableEq, Repr

/-- A wait selector (30_encoding.md R82). -/
inductive WaitSel where
  /-- `w = 0`: `T_POLL_US` steps. -/
  | poll
  /-- `w = 1`: `T_RETRY_US` steps. -/
  | retry
  deriving DecidableEq, Repr

/-- A micro-operation (30_encoding.md R84). A target is an absolute ROM index (R81). -/
inductive Instr where
  | nop
  | dhtStart
  | dhtWake
  | dhtRelease
  | dhtSample
  | dhtCheck
  | dhtConvert
  | winFill (w : Win)
  | winShift (w : Win)
  | winAvg (w : Win)
  | wlSample
  | wlEval
  | dialRead
  | setLatch
  | ctlFan
  | ctlRefill
  | ctlEmpty
  | ctlCommit
  | tmrStart
  | tmrStop
  | tmrReset
  | tmrRestart
  | brNotElapsed (t : BitVec 8)
  | brDecFail (t : BitVec 8)
  | jmp (t : BitVec 8)
  | wait (w : WaitSel)
  deriving DecidableEq, Repr

end Sys2Proof
end

