-- ==== Sys2Proof/WellFormed.lean ====
section
/-! DEFINITION. When an op word is well formed: 30_encoding.md R80 (its fields) and R85 (the five ways of
being illegal, one check each, written from R85's own lists and not from the decoder). `Instr` has no
ill-formed terms: its operand types hold only the selector values R82 allows, so the checks stand on the
op word, where an illegal value can be written. -/

namespace Sys2Proof

/-! ## The fields of an op word (30_encoding.md R80) -/

/-- `opc`, bits 15:10. -/
def OpWord.opc (w : OpWord) : BitVec 6 := w.extractLsb' 10 6
/-- `w`, bits 9:8. -/
def OpWord.sel (w : OpWord) : BitVec 2 := w.extractLsb' 8 2
/-- `imm8`, bits 7:0. -/
def OpWord.imm8 (w : OpWord) : BitVec 8 := w.extractLsb' 0 8

/-! ## The classes of opcodes R85 speaks of -/

/-- WIN_FILL, WIN_SHIFT, WIN_AVG. -/
def isWindowOpc (opc : BitVec 6) : Bool := opc == 0x08 || opc == 0x09 || opc == 0x0A
/-- WAIT. -/
def isWaitOpc (opc : BitVec 6) : Bool := opc == 0x2B
/-- BR_NOT_ELAPSED, BR_DEC_FAIL, JMP. -/
def isBranchOpc (opc : BitVec 6) : Bool := opc == 0x28 || opc == 0x29 || opc == 0x2A

/-- The value lies between two bounds, both included. -/
def opcBetween (lo hi : Nat) (opc : BitVec 6) : Bool := decide (lo ≤ opc.toNat) && decide (opc.toNat ≤ hi)

/-! ## The five checks of 30_encoding.md R85 -/

/-- R85 (a): `opc` is not in the table. -/
def illegalOpc (w : OpWord) : Bool :=
  w.opc == 0x07 || opcBetween 0x0B 0x0F w.opc || opcBetween 0x12 0x17 w.opc || w.opc == 0x1E || w.opc == 0x1F
    || opcBetween 0x24 0x27 w.opc || opcBetween 0x2C 0x3F w.opc

/-- R85 (b): a window op has `w = 3`. -/
def illegalWindow (w : OpWord) : Bool := isWindowOpc w.opc && w.sel == 3

/-- R85 (c): WAIT has `w ≥ 2`. -/
def illegalWait (w : OpWord) : Bool := isWaitOpc w.opc && decide (2 ≤ w.sel.toNat)

/-- R85 (d): an op other than the window ops and WAIT has `w ≠ 0`. -/
def illegalSelector (w : OpWord) : Bool := !isWindowOpc w.opc && !isWaitOpc w.opc && w.sel != 0

/-- R85 (e): an op other than the three branches has `imm8 ≠ 0`. -/
def illegalImmediate (w : OpWord) : Bool := !isBranchOpc w.opc && w.imm8 != 0

/-- An illegal op word: any of R85 (a) to (e) holds. -/
def illegalWord (w : OpWord) : Bool :=
  illegalOpc w || illegalWindow w || illegalWait w || illegalSelector w || illegalImmediate w

/-- A well-formed op word is a legal one; there is no third kind (30_encoding.md R86). -/
def wellFormedWord (w : OpWord) : Bool := !illegalWord w

end Sys2Proof
end

