-- ==== Sys2Proof/Decode.lean ====
section
/-! DEFINITION. The decoder, total on op words (30_encoding.md R84, R85), the encoder written from the same
table, and the assembler's pseudo-operations (R89). -/

namespace Sys2Proof

/-! ## Fields (30_encoding.md R80) -/

/-- `opc`, bits 15:10. -/
def fieldOpc (w : OpWord) : BitVec 6 := w.extractLsb' 10 6
/-- `w`, bits 9:8. -/
def fieldSel (w : OpWord) : BitVec 2 := w.extractLsb' 8 2
/-- `imm8`, bits 7:0. -/
def fieldImm (w : OpWord) : BitVec 8 := w.extractLsb' 0 8
/-- The op word with the three given fields. -/
def ofFields (opc : BitVec 6) (sel : BitVec 2) (imm : BitVec 8) : OpWord := opc ++ sel ++ imm

/-! ## The decoder and the encoder -/

/-- Window selector values (30_encoding.md R82). -/
def winOfSel (sel : BitVec 2) : Option Win :=
  match sel.toNat with
  | 0 => some .hum
  | 1 => some .temp
  | 2 => some .water
  | _ => none

/-- Wait selector values (30_encoding.md R82). -/
def waitOfSel (sel : BitVec 2) : Option WaitSel :=
  match sel.toNat with
  | 0 => some .poll
  | 1 => some .retry
  | _ => none

/-- An op without operands: `w` and `imm8` must be 0 (30_encoding.md R80, R85 (d), (e)). -/
def plainOp (i : Instr) (sel : BitVec 2) (imm : BitVec 8) : Option Instr :=
  if sel = 0 ∧ imm = 0 then some i else none

/-- A window op: `w` names the window and `imm8` must be 0 (R85 (b), (e)). -/
def windowOp (f : Win → Instr) (sel : BitVec 2) (imm : BitVec 8) : Option Instr :=
  if imm = 0 then (winOfSel sel).map f else none

/-- WAIT: `w` names the period and `imm8` must be 0 (R85 (c), (e)). -/
def waitOp (sel : BitVec 2) (imm : BitVec 8) : Option Instr :=
  if imm = 0 then (waitOfSel sel).map .wait else none

/-- A branch: `imm8` is the absolute target and `w` must be 0 (R81, R85 (d)). -/
def branchOp (f : BitVec 8 → Instr) (sel : BitVec 2) (imm : BitVec 8) : Option Instr :=
  if sel = 0 then some (f imm) else none

/-- The op word's micro-operation, or `none` where the word is illegal: the op is told from `opc` alone,
then `w` and `imm8` are checked (30_encoding.md R84). -/
def decode (w : OpWord) : Option Instr :=
  match (fieldOpc w).toNat with
  | 0x00 => plainOp .nop (fieldSel w) (fieldImm w)
  | 0x01 => plainOp .dhtStart (fieldSel w) (fieldImm w)
  | 0x02 => plainOp .dhtWake (fieldSel w) (fieldImm w)
  | 0x03 => plainOp .dhtRelease (fieldSel w) (fieldImm w)
  | 0x04 => plainOp .dhtSample (fieldSel w) (fieldImm w)
  | 0x05 => plainOp .dhtCheck (fieldSel w) (fieldImm w)
  | 0x06 => plainOp .dhtConvert (fieldSel w) (fieldImm w)
  | 0x08 => windowOp .winFill (fieldSel w) (fieldImm w)
  | 0x09 => windowOp .winShift (fieldSel w) (fieldImm w)
  | 0x0A => windowOp .winAvg (fieldSel w) (fieldImm w)
  | 0x10 => plainOp .wlSample (fieldSel w) (fieldImm w)
  | 0x11 => plainOp .wlEval (fieldSel w) (fieldImm w)
  | 0x18 => plainOp .dialRead (fieldSel w) (fieldImm w)
  | 0x19 => plainOp .setLatch (fieldSel w) (fieldImm w)
  | 0x1A => plainOp .ctlFan (fieldSel w) (fieldImm w)
  | 0x1B => plainOp .ctlRefill (fieldSel w) (fieldImm w)
  | 0x1C => plainOp .ctlEmpty (fieldSel w) (fieldImm w)
  | 0x1D => plainOp .ctlCommit (fieldSel w) (fieldImm w)
  | 0x20 => plainOp .tmrStart (fieldSel w) (fieldImm w)
  | 0x21 => plainOp .tmrStop (fieldSel w) (fieldImm w)
  | 0x22 => plainOp .tmrReset (fieldSel w) (fieldImm w)
  | 0x23 => plainOp .tmrRestart (fieldSel w) (fieldImm w)
  | 0x28 => branchOp .brNotElapsed (fieldSel w) (fieldImm w)
  | 0x29 => branchOp .brDecFail (fieldSel w) (fieldImm w)
  | 0x2A => branchOp .jmp (fieldSel w) (fieldImm w)
  | 0x2B => waitOp (fieldSel w) (fieldImm w)
  | _ => none

/-- The selector value of a window (30_encoding.md R82). -/
def Win.sel : Win → BitVec 2
  | .hum => 0
  | .temp => 1
  | .water => 2

/-- The selector value of a wait period (30_encoding.md R82). -/
def WaitSel.sel : WaitSel → BitVec 2
  | .poll => 0
  | .retry => 1

/-- The op word of a micro-operation (30_encoding.md R84). -/
def encode : Instr → OpWord
  | .nop => ofFields 0x00 0 0
  | .dhtStart => ofFields 0x01 0 0
  | .dhtWake => ofFields 0x02 0 0
  | .dhtRelease => ofFields 0x03 0 0
  | .dhtSample => ofFields 0x04 0 0
  | .dhtCheck => ofFields 0x05 0 0
  | .dhtConvert => ofFields 0x06 0 0
  | .winFill w => ofFields 0x08 w.sel 0
  | .winShift w => ofFields 0x09 w.sel 0
  | .winAvg w => ofFields 0x0A w.sel 0
  | .wlSample => ofFields 0x10 0 0
  | .wlEval => ofFields 0x11 0 0
  | .dialRead => ofFields 0x18 0 0
  | .setLatch => ofFields 0x19 0 0
  | .ctlFan => ofFields 0x1A 0 0
  | .ctlRefill => ofFields 0x1B 0 0
  | .ctlEmpty => ofFields 0x1C 0 0
  | .ctlCommit => ofFields 0x1D 0 0
  | .tmrStart => ofFields 0x20 0 0
  | .tmrStop => ofFields 0x21 0 0
  | .tmrReset => ofFields 0x22 0 0
  | .tmrRestart => ofFields 0x23 0 0
  | .brNotElapsed t => ofFields 0x28 0 t
  | .brDecFail t => ofFields 0x29 0 t
  | .jmp t => ofFields 0x2A 0 t
  | .wait w => ofFields 0x2B w.sel 0

/-! ## The assembler (30_encoding.md R88, R89)

A program line is an optional label and one operation; a target is a number or a label; a pseudo-op stands
for its expansion. Text (spacing, comments, how a number is spelled) is left to a reader of text. -/

/-- A branch target as the assembler takes it: a number 0 to 255, or a label. -/
inductive AsmTarget where
  | num (n : BitVec 8)
  | label (name : String)
  deriving DecidableEq, Repr

/-- An operation as the assembler takes it. -/
inductive AsmOp where
  /-- An op that names no label. -/
  | op (i : Instr)
  | brNotElapsed (t : AsmTarget)
  | brDecFail (t : AsmTarget)
  | jmp (t : AsmTarget)
  /-- `DHT_READ` (30_encoding.md R89). -/
  | dhtRead
  /-- `WIN_AVG_ALL` (30_encoding.md R89). -/
  | winAvgAll
  deriving DecidableEq, Repr

/-- One line of a program: the label it stands behind, if any, and its operation. -/
structure AsmLine where
  label : Option String
  op : AsmOp
  deriving DecidableEq, Repr

/-- The expansion of the pseudo-op `DHT_READ` (30_encoding.md R89; 41_frame_decoder.md R110). -/
def pseudoDhtRead : List Instr := [.dhtStart, .dhtWake, .dhtRelease, .dhtSample, .dhtCheck, .dhtConvert]

/-- The expansion of the pseudo-op `WIN_AVG_ALL` (30_encoding.md R89). -/
def pseudoWinAvgAll : List Instr := [.winAvg .hum, .winAvg .temp, .winAvg .water]

/-- How many op words an operation takes. -/
def AsmOp.size : AsmOp → Nat
  | .dhtRead => pseudoDhtRead.length
  | .winAvgAll => pseudoWinAvgAll.length
  | _ => 1

/-- The labels of a program with their values: a label's value is the ROM index of the op it stands
before, and ops stand at consecutive indices from `at_` on (30_encoding.md R88). -/
def asmLabels (at_ : Nat) : List AsmLine → List (String × Nat)
  | [] => []
  | l :: ls =>
    let rest := asmLabels (at_ + l.op.size) ls
    match l.label with
    | some n => (n, at_) :: rest
    | none => rest

/-- The value of a target: the first definition of its label, which must be a ROM index. -/
def asmTarget (labels : List (String × Nat)) : AsmTarget → Option (BitVec 8)
  | .num n => some n
  | .label name =>
    match labels.find? (fun p => p.1 == name) with
    | some (_, v) => if v < 256 then some (BitVec.ofNat 8 v) else none
    | none => none

/-- The micro-operations of one line. -/
def AsmOp.expand (labels : List (String × Nat)) : AsmOp → Option (List Instr)
  | .op i => some [i]
  | .brNotElapsed t => (asmTarget labels t).map fun v => [.brNotElapsed v]
  | .brDecFail t => (asmTarget labels t).map fun v => [.brDecFail v]
  | .jmp t => (asmTarget labels t).map fun v => [.jmp v]
  | .dhtRead => some pseudoDhtRead
  | .winAvgAll => some pseudoWinAvgAll

/-- The op words of the lines, given the labels' values. -/
def asmWords (labels : List (String × Nat)) : List AsmLine → Option (List OpWord)
  | [] => some []
  | l :: ls =>
    match l.op.expand labels, asmWords labels ls with
    | some is, some ws => some (is.map encode ++ ws)
    | _, _ => none

/-- The assembler: the op words of a program, from ROM index 0x00 on (30_encoding.md R88). -/
def assemble (p : List AsmLine) : Option (List OpWord) := asmWords (asmLabels 0 p) p

/-! ## The host's reading -/

/-- The instruction the decoder reads from an instruction whose bits are `w` (30_encoding.md R80: one op
word of 16 bits; every bit above `nbits` is 0). -/
def decodeTableWord (nbits w : Nat) : Option Instr := decode (BitVec.ofNat 16 (w % 2 ^ nbits))

end Sys2Proof
end

