-- ==== Sys2Proof/Config.lean ====
section
/-! DEFINITION. The implementation parameters of 00_scope.md R11, which a model takes as an argument: the
structure `Params`, the values of this hardware, and the derived constants of R12 as functions of them. And the
FREE VALUES: opaque constants without a body, so that nothing in Lean can evaluate one or prove a value of it. -/

namespace Sys2Proof

/-- The implementation parameters (00_scope.md R11). They are no state of the block: a machine has one value of
them, which no step changes (10_state.md R20; log entry 6). `CLK_PER_US`, which R11 leaves OPEN, is
`Config.CLK_PER_US`. -/
structure Params where
  /-- `N_WIN`: slots of each sliding window. -/
  nWin : Nat
  /-- `T_START_LOW_US`: steps the data line is driven low in the handshake. -/
  tStartLowUs : Nat
  /-- `T_START_HIGH_US`: steps the data line is driven high after that. -/
  tStartHighUs : Nat
  /-- `MAX_TIMINGS`: transitions sampled per frame at most. -/
  maxTimings : Nat
  /-- `HEADER_TRANSITIONS`: transitions never classified. -/
  headerTransitions : Nat
  /-- `TIMEOUT_COUNT`: same-level count that aborts sampling. -/
  timeoutCount : Nat
  /-- `BIT_THRESHOLD`: a count above this is a 1 bit. -/
  bitThreshold : Nat
  /-- `MIN_BITS`: bits needed for a valid frame. -/
  minBits : Nat
  /-- `ADC_MAX`: full scale of the 10-bit analog input. -/
  adcMax : Nat
  /-- `WATER_SCALE`: multiplier of the water mapping. -/
  waterScale : Nat
  /-- `WATER_OFFSET`: subtrahend of the water mapping. -/
  waterOffset : Nat
  /-- `WATER_THRESHOLD`: out of water iff the window average is below this. -/
  waterThreshold : Nat
  /-- `TOLERANCE_X10`: the tolerance in tenths of a percent of relative humidity (90_conflicts.md C1). -/
  toleranceX10 : Nat
  /-- `TICK_PERIOD_MS`: period of the control tick. -/
  tickPeriodMs : Nat
  /-- `POLL_PERIOD_MS`: period of the inner polling loop. -/
  pollPeriodMs : Nat
  /-- `ALARM_REPS`: repetitions of the alarm pattern. -/
  alarmReps : Nat
  /-- `ALARM_HIGH_MS`: alarm pin high per repetition. -/
  alarmHighMs : Nat
  /-- `ALARM_LOW_MS`: alarm pin low per repetition. -/
  alarmLowMs : Nat
  /-- `INIT_RETRY_MS`: wait between failed start-up decode attempts. -/
  initRetryMs : Nat
  deriving DecidableEq, Repr

/-- The values of this hardware (00_scope.md R11, column `value`). -/
def Params.hardware : Params where
  nWin := 14
  tStartLowUs := 18000
  tStartHighUs := 40
  maxTimings := 85
  headerTransitions := 3
  timeoutCount := 255
  bitThreshold := 16
  minBits := 40
  adcMax := 1023
  waterScale := 100
  waterOffset := 1
  waterThreshold := 10
  toleranceX10 := 20
  tickPeriodMs := 2000
  pollPeriodMs := 100
  alarmReps := 10
  alarmHighMs := 150
  alarmLowMs := 150
  initRetryMs := 2000

/-- The values a model may take (00_scope.md R11): positive ones, with `MIN_BITS ≤ 40` and
`MAX_TIMINGS ≥ HEADER_TRANSITIONS + 1`. -/
abbrev Params.Legal (p : Params) : Prop :=
  (1 ≤ p.nWin ∧ 1 ≤ p.tStartLowUs ∧ 1 ≤ p.tStartHighUs ∧ 1 ≤ p.maxTimings ∧ 1 ≤ p.headerTransitions ∧
    1 ≤ p.timeoutCount ∧ 1 ≤ p.bitThreshold ∧ 1 ≤ p.minBits ∧ 1 ≤ p.adcMax ∧ 1 ≤ p.waterScale ∧ 1 ≤ p.waterOffset ∧
    1 ≤ p.waterThreshold ∧ 1 ≤ p.toleranceX10 ∧ 1 ≤ p.tickPeriodMs ∧ 1 ≤ p.pollPeriodMs ∧ 1 ≤ p.alarmReps ∧
    1 ≤ p.alarmHighMs ∧ 1 ≤ p.alarmLowMs ∧ 1 ≤ p.initRetryMs) ∧
  p.minBits ≤ 40 ∧ p.headerTransitions + 1 ≤ p.maxTimings

namespace Config

/-- FREE VALUE. One less than `CLK_PER_US`, which 00_scope.md R10 and R11 leave OPEN. -/
opaque CLK_PER_US_LESS_ONE : Nat
/-- Clock cycles per step: an integer of at least 1 on which no rule depends (00_scope.md R10). -/
def CLK_PER_US : Nat := CLK_PER_US_LESS_ONE + 1

/-! ## Sizes the spec fixes -/

/-- Bytes of a frame (30_encoding.md R77). -/
abbrev FRAME_BYTES : Nat := 5
/-- Bits the frame registers hold, 8 for each byte (41_frame_decoder.md R120). -/
def FRAME_BITS : Nat := 40
/-- Where the bit counter stops (41_frame_decoder.md R120). -/
def BITCNT_MAX : Nat := 63
/-- Steps in one millisecond (10_state.md R40). -/
abbrev STEPS_PER_MS : Nat := 1000
/-- Slots of each window that the status view lists (10_state.md R46). -/
def VIEW_SLOTS : Nat := 14

/-! ## Free values: the input pins (00_scope.md R9; 93_implementation_defined.md I1 to I3; log entry 1)

Each takes the number of the step's draw. -/

/-- FREE VALUE. The level of `rst`. -/
opaque rstDraw : Nat → Bool
/-- FREE VALUE. The level of `dht_i`. -/
opaque dhtDraw : Nat → Bool
/-- FREE VALUE. The converter's result `adc_val`. -/
opaque adcDraw : Nat → BitVec 10
/-- FREE VALUE. The dial's value `set_in`. -/
opaque setDraw : Nat → BitVec 16
/-- FREE VALUE. The observer's index `stat_idx`. -/
opaque idxDraw : Nat → BitVec 8

/-! ## Free values: a value that leaves its register's width (log entry 4)

Each takes the number of the step's draw. The first three concern sums that only another microprogram reaches,
the others values that only other parameters than this hardware's reach. -/

/-- FREE VALUE. What `dec_cnt` (u8) holds when its new count is 256 or more. -/
opaque freeDecCnt : Nat → BitVec 8
/-- FREE VALUE. What `dec_i` (u7) holds when its new index is 128. -/
opaque freeDecI : Nat → BitVec 7
/-- FREE VALUE. What `op_e` (u32) holds when its new count is 2^32. -/
opaque freeOpE : Nat → BitVec 32
/-- FREE VALUE. What `wl_mapped` (s8) holds when the mapping is outside -128 to 127. -/
opaque freeWlMapped : Nat → BitVec 8
/-- FREE VALUE. What `avg_sum[HUM]` (u12) holds when the sum is 2^12 or more. -/
opaque freeSumHum : Nat → BitVec 12
/-- FREE VALUE. What `avg_sum[TEMP]` (u17) holds when the sum is 2^17 or more. -/
opaque freeSumTemp : Nat → BitVec 17
/-- FREE VALUE. What `avg_sum[WATER]` (s12) holds when the sum is outside -2048 to 2047. -/
opaque freeSumWater : Nat → BitVec 12
/-- FREE VALUE. What `tmr_dur` (u32) holds when `TICK_PERIOD_MS` is 2^32 or more. -/
opaque freeTmrDur : Nat → BitVec 32
/-- FREE VALUE. What the status view shows for a window slot that it lists and the window does not have
(`N_WIN` below 14), by index and draw. -/
opaque freeSlotWord : Nat → Nat → StatWord

end Config

/-! ## Derived constants (00_scope.md R12) -/

/-- `FIRST_DATA_INDEX`: the first even index after the header transitions. -/
def Params.firstDataIndex (p : Params) : Nat := p.headerTransitions + p.headerTransitions % 2
/-- Steps of one repetition of the alarm pattern (44_controller.md R178, `P`). -/
def Params.alarmPeriodUs (p : Params) : Nat := (p.alarmHighMs + p.alarmLowMs) * Config.STEPS_PER_MS
/-- Steps the alarm pin is high in one repetition (44_controller.md R178, `H`). -/
def Params.alarmHighUs (p : Params) : Nat := p.alarmHighMs * Config.STEPS_PER_MS
/-- `T_ALARM_US`: steps of the whole alarm pattern. -/
def Params.tAlarmUs (p : Params) : Nat := p.alarmReps * p.alarmPeriodUs
/-- `T_POLL_US`: steps of WAIT POLL. -/
def Params.tPollUs (p : Params) : Nat := p.pollPeriodMs * Config.STEPS_PER_MS
/-- `T_RETRY_US`: steps of WAIT RETRY. -/
def Params.tRetryUs (p : Params) : Nat := p.initRetryMs * Config.STEPS_PER_MS

end Sys2Proof
end

