-- ==== Sys2Proof/Machine/State.lean ====
section
/-! DEFINITION. The state of the block: every element of 10_state.md R20 in a field of its own, with the
widths of R24 to R42 and the reset values of R45, and the four fields the model adds (the parameters, the ROM's
contents, the environment's fixed inputs, the number of the next draw). Plain data throughout. -/

namespace Sys2Proof.Machine

/-- The levels of the input pins during one step (10_state.md R21). `clk` has no level of its own at this
grain: one step is `Config.CLK_PER_US` cycles of it. -/
structure PinIn where
  /-- `rst`: 1 makes the step a reset step. -/
  rst : Bool
  /-- `dht_i`: the level of the sensor data line, 1 = high. -/
  dhtI : Bool
  /-- `adc_val`: the water-level conversion result. -/
  adcVal : BitVec 10
  /-- `set_in`: the target humidity from the dial, tenths of a percent. -/
  setIn : BitVec 16
  /-- `stat_idx`: the index the observer reads. -/
  statIdx : BitVec 8
  deriving DecidableEq, Repr

/-- The free input levels of draw number `n`: a model takes each input as a draw (00_scope.md R9). -/
def PinIn.draw (n : Nat) : PinIn :=
  ⟨Config.rstDraw n, Config.dhtDraw n, Config.adcDraw n, Config.setDraw n, Config.idxDraw n⟩

/-- The outcome of the last completed DHT_CHECK (10_state.md R35); its codes are in Machine/Status.lean. -/
inductive DecStatus where
  /-- `NONE`: no decode checked since reset. -/
  | none
  /-- `OK`. -/
  | ok
  /-- `TIMEOUT`: fewer than `MIN_BITS` bits. -/
  | timeout
  /-- `CHECKSUM`: the checksum byte is wrong. -/
  | checksum
  deriving DecidableEq, Repr

/-- Byte cells in one canonical form (Machine/Ops.lean says which): addresses strictly rising, no cell
equal to what an unlisted address reads as. -/
abbrev Memory := List Host.Cell

/-- The machine. A `Bool` is a `u1` of the spec. -/
@[ext]
structure State where
  /-- `dht_oe`: 1 = the block drives the data line (10_state.md R42). -/
  dhtOe : Bool
  /-- `dht_o`: the level the block drives (10_state.md R42). -/
  dhtO : Bool
  /-- `rd_hum`: the last good humidity, whole percent (10_state.md R24, R25). -/
  rdHum : BitVec 8
  /-- `rd_temp10`: the last good temperature, tenths of a degree Fahrenheit (10_state.md R24, R26). -/
  rdTemp10 : BitVec 13
  /-- `rd_valid`: the last check passed (10_state.md R24). -/
  rdValid : Bool
  /-- `frame[0..4]`: humidityInt, humidityFrac, tempInt, tempFrac, checksum (10_state.md R29). -/
  frame : Vector Byte Config.FRAME_BYTES
  /-- `bitcnt`: bits classified in the current decode (10_state.md R29). -/
  bitcnt : BitVec 6
  /-- `dec_to`: the current decode's sampling ended by the timeout (10_state.md R29). -/
  decTo : Bool
  /-- `dec_i`: index of the transition being sampled (10_state.md R37). -/
  decI : BitVec 7
  /-- `dec_cnt`: count of the current transition (10_state.md R37). -/
  decCnt : BitVec 8
  /-- `dec_last`: level the current transition started at (10_state.md R37). -/
  decLast : Bool
  /-- `dec_status` (10_state.md R35). -/
  decStatus : DecStatus
  /-- `err_to`: checks that ended in `TIMEOUT`, modulo 2^32 (10_state.md R36). -/
  errTo : BitVec 32
  /-- `err_ck`: checks that ended in `CHECKSUM`, modulo 2^32 (10_state.md R36). -/
  errCk : BitVec 32
  /-- `fanOn`: controller state and fan pin (10_state.md R30, R31). -/
  fanOn : Bool
  /-- `outOfWater` (10_state.md R30). -/
  outOfWater : Bool
  /-- `lastOutOfWater` (10_state.md R30). -/
  lastOutOfWater : Bool
  /-- `setHum10`: the setpoint the tick uses, tenths of a percent (10_state.md R27, R30). -/
  setHum10 : BitVec 16
  /-- `dial10`: the last dial value, tenths of a percent (10_state.md R27). -/
  dial10 : BitVec 16
  /-- `led`: the low-water indicator (10_state.md R31). -/
  led : Bool
  /-- `alm`: the alarm pin level (10_state.md R31). -/
  alm : Bool
  /-- `wl_raw`: the last analog reading (10_state.md R28). -/
  wlRaw : BitVec 10
  /-- `wl_mapped`: its mapping, two's complement (10_state.md R28). -/
  wlMapped : BitVec 8
  /-- `W[HUM]`, slot 0 the oldest (10_state.md R32); each window has `N_WIN` slots (`WindowsOk` of Safety.lean). -/
  wHum : List (BitVec 8)
  /-- `W[TEMP]`, slot 0 the oldest (10_state.md R32). -/
  wTemp : List (BitVec 13)
  /-- `W[WATER]`, slot 0 the oldest, two's complement (10_state.md R32). -/
  wWater : List (BitVec 8)
  /-- `avg_sum[HUM]` (10_state.md R33). -/
  sumHum : BitVec 12
  /-- `avg_sum[TEMP]` (10_state.md R33). -/
  sumTemp : BitVec 17
  /-- `avg_sum[WATER]`, two's complement (10_state.md R33). -/
  sumWater : BitVec 12
  /-- `tmr_dur`, ms (10_state.md R41). -/
  tmrDur : BitVec 32
  /-- `tmr_start`, a value of `now_ms` (10_state.md R41). -/
  tmrStart : BitVec 32
  /-- `tmr_acc`, ms (10_state.md R41). -/
  tmrAcc : BitVec 32
  /-- `tmr_run` (10_state.md R41). -/
  tmrRun : Bool
  /-- `t_us`: steps within the current millisecond, 0 to 999 (10_state.md R40). -/
  tUs : Fin Config.STEPS_PER_MS
  /-- `now_ms`: milliseconds since reset, modulo 2^32 (10_state.md R40). -/
  nowMs : BitVec 32
  /-- `upc`: the micro-program counter (10_state.md R38). -/
  upc : BitVec 8
  /-- `op_e`: steps the current multi-step op has already executed (10_state.md R39). -/
  opE : BitVec 32
  /-- `faulted`: the fault state (10_state.md R38; 60_exceptions.md R233). -/
  faulted : Bool
  /-- The MODEL's own: the parameters of 00_scope.md R11 (log entry 6). -/
  par : Params
  /-- The MODEL's own: the ROM's bytes that differ from the normative ROM (log entry 2). -/
  rom : Memory
  /-- The MODEL's own: input levels the environment has fixed, this step's first (log entry 1). -/
  script : List PinIn
  /-- The MODEL's own: the number of this step's draw (log entry 1). -/
  draws : Nat
  deriving DecidableEq, Repr

/-- Why a step could stop the machine instead of giving a next state. It has no constructor: the fault
state of 60_exceptions.md R233 is a state of the block (`faulted = 1`) which a step reaches and leaves by
reset, so no step of this hardware ends in a host fault (log entry 7; safe: nothing is cut short). -/
inductive Fault where
  deriving DecidableEq, Repr

/-- Why an instruction has no meaning in the model. -/
inductive Refusal where
  /-- An instruction the model has no meaning for; raised by no arm of `exec` (safe). -/
  | notModelled (mnemonic : String)
  deriving DecidableEq, Repr

/-- The machine right after reset: every element at its value of 10_state.md R45, this hardware's
parameters, the normative ROM fitted, and no input of the environment fixed yet (log entries 1, 2, 6, 8). -/
def State.reset : State where
  dhtOe := false
  dhtO := true
  rdHum := 0
  rdTemp10 := 0
  rdValid := false
  frame := Vector.replicate Config.FRAME_BYTES 0
  bitcnt := 0
  decTo := false
  decI := 0
  decCnt := 0
  decLast := true
  decStatus := .none
  errTo := 0
  errCk := 0
  fanOn := false
  outOfWater := false
  lastOutOfWater := false
  setHum10 := 0
  dial10 := 0
  led := false
  alm := false
  wlRaw := 0
  wlMapped := 0
  wHum := List.replicate Params.hardware.nWin 0
  wTemp := List.replicate Params.hardware.nWin 0
  wWater := List.replicate Params.hardware.nWin 0
  sumHum := 0
  sumTemp := 0
  sumWater := 0
  tmrDur := BitVec.ofNat 32 Params.hardware.tickPeriodMs
  tmrStart := 0
  tmrAcc := 0
  tmrRun := false
  tUs := 0
  nowMs := 0
  upc := 0
  opE := 0
  faulted := false
  par := .hardware
  rom := []
  script := []
  draws := 0

end Sys2Proof.Machine
end

