-- ==== Sys2Proof/Machine/Rom.lean ====
section
/-! DEFINITION. The microprogram: the assembly of 45_timer_sequencer.md R214 and R215, and the op words of
R215 and R216 as the table prints them, which are what an unlisted ROM byte reads as. -/

namespace Sys2Proof.Machine

/-- The word that fills the unused ROM, an illegal one (45_timer_sequencer.md R216). -/
def fillWord : OpWord := 0xFFFF

/-- The normative microprogram, ROM indices 0x00 to 0x2C (45_timer_sequencer.md R215, column `word`). -/
def microprogram : List OpWord :=
  [0x4000, 0x2200, 0x2A00, 0x6000, 0x6400] ++            -- 0x00: start-up, water baseline, first dial read
  [0x0400, 0x0800, 0x0C00, 0x1000, 0x1400, 0x1800] ++    -- 0x05: INIT_TRY, the start-up decode attempt
  [0xA412, 0x2000, 0x2100, 0x2800, 0x2900, 0x8C00, 0xA814] ++  -- 0x0B: baseline fill, tick timer, to LOOP
  [0xAD00, 0xA805] ++                                    -- 0x12: INIT_WAIT
  [0x6000, 0xA02B] ++                                    -- 0x14: LOOP, the tick gate
  [0x6400, 0x4000, 0x2600, 0x4400] ++                    -- 0x16: tick step 1
  [0x0400, 0x0800, 0x0C00, 0x1000, 0x1400, 0x1800] ++    -- 0x1A: tick step 2, the decode
  [0xA423, 0x2400, 0x2500] ++                            -- 0x20: shift, or skip on failure
  [0x2800, 0x2900, 0x2A00] ++                            -- 0x23: AVG, tick step 3
  [0x6800, 0x6C00, 0x7000, 0x7400, 0x8C00] ++            -- 0x26: tick steps 4 to 7
  [0xAC00, 0xA814]                                       -- 0x2B: POLL_WAIT

/-- The last index the microprogram occupies (20_memory.md R70). -/
def lastUsedIndex : Nat := 0x2C

/-- The op word of the normative ROM at an index (45_timer_sequencer.md R215, R216). -/
def normativeWord (k : Nat) : OpWord := (microprogram[k]?).getD fillWord

/-- What an unlisted byte of the ROM reads as: the normative ROM, the less significant byte of word `k` at
address `2 k` (log entry 2). -/
def romDefault (a : Nat) : Byte :=
  if a % 2 = 0 then (normativeWord (a / 2)).lo else (normativeWord (a / 2)).hi

/-! ## The same program in assembly (45_timer_sequencer.md R214, R215, column `assembly`) -/

/-- A line without a label. -/
def asmLine (i : Instr) : AsmLine := ⟨none, .op i⟩

/-- The normative microprogram as R215 writes it, with the pseudo-ops of 30_encoding.md R89 where it lists
their expansion. -/
def microprogramAsm : List AsmLine :=
  [asmLine .wlSample, asmLine (.winFill .water), asmLine (.winAvg .water), asmLine .dialRead, asmLine .setLatch] ++
  [⟨some "INIT_TRY", .dhtRead⟩, ⟨none, .brDecFail (.label "INIT_WAIT")⟩] ++
  [asmLine (.winFill .hum), asmLine (.winFill .temp), asmLine (.winAvg .hum), asmLine (.winAvg .temp)] ++
  [asmLine .tmrRestart, ⟨none, .jmp (.label "LOOP")⟩] ++
  [⟨some "INIT_WAIT", .op (.wait .retry)⟩, ⟨none, .jmp (.label "INIT_TRY")⟩] ++
  [⟨some "LOOP", .op .dialRead⟩, ⟨none, .brNotElapsed (.label "POLL_WAIT")⟩] ++
  [asmLine .setLatch, asmLine .wlSample, asmLine (.winShift .water), asmLine .wlEval] ++
  [⟨none, .dhtRead⟩, ⟨none, .brDecFail (.label "AVG")⟩, asmLine (.winShift .hum), asmLine (.winShift .temp)] ++
  [⟨some "AVG", .winAvgAll⟩] ++
  [asmLine .ctlFan, asmLine .ctlRefill, asmLine .ctlEmpty, asmLine .ctlCommit, asmLine .tmrRestart] ++
  [⟨some "POLL_WAIT", .op (.wait .poll)⟩, ⟨none, .jmp (.label "LOOP")⟩]

end Sys2Proof.Machine
end

