-- ==== Sys2Proof/Machine/Ops.lean ====
section
/-! DEFINITION. The named operations over the ROM, the input pins, the sequencer and time, and the two events
that override every op: the fault entry (60_exceptions.md R233) and the reset step
(70_reset_and_hazards.md R260). The block has no trap to enter or return from (60_exceptions.md R238). -/

namespace Sys2Proof.Machine

/-! ## Narrowing -/

/-- A sum stored in a register of width `w`; the spec states no result where the sum leaves the width, and
the register then holds the free value (log entry 4). -/
def orFree (w : Nat) (free : BitVec w) (v : Nat) : BitVec w := if v < 2 ^ w then BitVec.ofNat w v else free

/-- A two's complement value stored in a register of width `w`; outside the width, the free value (log
entry 4). -/
def orFreeInt (w : Nat) (free : BitVec w) (v : Int) : BitVec w :=
  if -2 ^ (w - 1) ≤ v ∧ v < 2 ^ (w - 1) then BitVec.ofInt w v else free

/-! ## The ROM (20_memory.md R62; log entry 2)

Byte addresses 0 to 511; op word `k` stands in bytes `2 k` (bits 7:0) and `2 k + 1` (bits 15:8). -/

/-- Byte addresses the ROM has. -/
def romBytes : Nat := 512

/-- The byte at an address: its cell, or what an unlisted address reads as. -/
def Memory.read : Memory → Nat → Byte
  | [], a => romDefault a
  | c :: m, a => if c.1 = a then c.2 else Memory.read m a

/-- The list with one byte changed, in canonical form: a byte that an unlisted address reads as anyway
takes no cell. -/
def Memory.write : Memory → Nat → Byte → Memory
  | [], a, b => if b = romDefault a then [] else [(a, b)]
  | c :: m, a, b =>
    if a < c.1 then (if b = romDefault a then c :: m else (a, b) :: c :: m)
    else if a = c.1 then (if b = romDefault a then m else (a, b) :: m)
    else c :: Memory.write m a b

/-- The canonical form: addresses strictly rising and in range, no cell that an unlisted address reads as. -/
abbrev Memory.wf (m : Memory) : Prop :=
  m.Pairwise (fun c d => c.1 < d.1) ∧ ∀ c ∈ m, c.1 < romBytes ∧ c.2 ≠ romDefault c.1

/-- The op word at a ROM index. -/
def romWord (m : Memory) (k : BitVec 8) : OpWord := m.read (2 * k.toNat + 1) ++ m.read (2 * k.toNat)

/-- The ROM with another op word at an index: what fitting another microprogram means. No step does it. -/
def romPut (m : Memory) (k : BitVec 8) (w : OpWord) : Memory :=
  (m.write (2 * k.toNat) w.lo).write (2 * k.toNat + 1) w.hi

/-- A ROM that holds the given words from index `k` on and is `m` elsewhere. -/
def romPutFrom (m : Memory) (k : Nat) : List OpWord → Memory
  | [] => m
  | w :: ws => romPutFrom (romPut m (BitVec.ofNat 8 k) w) (k + 1) ws

/-- The op word the sequencer fetches (45_timer_sequencer.md R211). -/
def State.fetchWord (s : State) : OpWord := romWord s.rom s.upc

/-- The micro-operation at `ROM[upc]`, or `none` where the word is illegal (30_encoding.md R85). -/
def State.fetch (s : State) : Option Instr := decode s.fetchWord

/-! ## The input pins (00_scope.md R9, R14; log entry 1) -/

/-- The input levels `k` steps from now: those the environment has fixed, else a free draw. -/
def State.pinsAt (s : State) (k : Nat) : PinIn := (s.script[k]?).getD (PinIn.draw (s.draws + k))

/-- The input levels during this step: `sample(p)` is a field of it. -/
def State.pins (s : State) : PinIn := s.pinsAt 0

/-- The environment's side of the end of a step: the next step has its own draw. -/
def State.nextDraw (s : State) : State := { s with script := s.script.tail, draws := s.draws + 1 }

/-- The state with this step's input levels fixed. -/
def State.withPins (s : State) (p : PinIn) : State := { s with script := p :: s.script.tail }

/-! ## Time (10_state.md R40) -/

/-- The end of every step that is not a reset step: `t_us` counts 0 to 999, and `now_ms` counts its wraps. -/
def State.advanceTime (s : State) : State :=
  { s with
    tUs := if s.tUs.val + 1 = Config.STEPS_PER_MS then 0 else s.tUs + 1
    nowMs := if s.tUs.val + 1 = Config.STEPS_PER_MS then s.nowMs + 1 else s.nowMs }

/-- The end of a step that is not a reset step. -/
def State.endStep (s : State) : State := s.advanceTime.nextDraw

/-! ## The sequencer (10_state.md R38, R39; 00_scope.md R15) -/

/-- "complete": the op ends and `upc` moves to the next index, wrapping past 255. -/
def State.complete (s : State) : State := { s with opE := 0, upc := s.upc + 1 }

/-- The op ends and `upc` takes a branch target. -/
def State.branch (s : State) (t : BitVec 8) : State := { s with opE := 0, upc := t }

/-- A multi-step op goes on: one more step executed, `upc` stays. -/
def State.hold (s : State) : State :=
  { s with opE := orFree 32 (Config.freeOpE s.draws) (s.opE.toNat + 1) }

/-- A multi-step op of `d` steps: its step number `d - 1` completes it. -/
def State.finishAt (d : Nat) (s : State) : State := if s.opE.toNat + 1 = d then s.complete else s.hold

/-! ## Faults and reset -/

/-- `TICK_PERIOD_MS` as `tmr_dur` holds it (10_state.md R45; 45_timer_sequencer.md R204). -/
def State.tickDur (s : State) : BitVec 32 := orFree 32 (Config.freeTmrDur s.draws) s.par.tickPeriodMs

/-- The fault entry: the actuators made safe, the line released, `upc` kept (60_exceptions.md R233). -/
def State.faultEntry (s : State) : State :=
  { s with faulted := true, fanOn := false, alm := false, dhtOe := false, opE := 0 }

/-- A reset step: every state element takes its reset value and time does not advance
(70_reset_and_hazards.md R260; 10_state.md R45). The parameters and the ROM are no state elements (10_state.md
R20) and the environment's inputs are not the block's: they pass through (log entry 3). -/
def State.resetStep (s : State) : State :=
  { State.reset with
    wHum := List.replicate s.par.nWin 0, wTemp := List.replicate s.par.nWin 0, wWater := List.replicate s.par.nWin 0
    tmrDur := s.tickDur, par := s.par, rom := s.rom, script := s.script, draws := s.draws }.nextDraw

end Sys2Proof.Machine
end

