-- ==== Sys2Proof/Machine/Operands.lean ====
section
/-! DEFINITION. What the ops read and the values they compute: window sources and sums
(42_sliding_window.md R142, R145), window updates (R141, R143), frame bytes (41_frame_decoder.md R120), the
Timer's elapsed time (45_timer_sequencer.md R200), and the two mappings of a reading (41_frame_decoder.md
R128, 43_water_level.md R161). -/

namespace Sys2Proof.Machine

/-! ## Windows -/

/-- A window of `n` slots that all hold the value (42_sliding_window.md R141). -/
def winFilled {α : Type} (n : Nat) (v : α) : List α := List.replicate n v

/-- The oldest slot's value is dropped, every other moves to the next older slot, and `v` enters as the newest:
`W[k] <- W[k+1]`, `W[N_WIN-1] <- v` (42_sliding_window.md R143). -/
def winShifted {α : Type} (w : List α) (v : α) : List α := w.tail ++ [v]

/-- The sum of a window of unsigned slots (42_sliding_window.md R145). -/
def winSumU {n : Nat} (w : List (BitVec n)) : Nat := (w.map BitVec.toNat).sum

/-- The sum of a window of two's-complement slots (42_sliding_window.md R145). -/
def winSumS {n : Nat} (w : List (BitVec n)) : Int := (w.map BitVec.toInt).sum

/-- `Src(w)` as an integer (42_sliding_window.md R142). -/
def State.src (s : State) : Win → Int
  | .hum => s.rdHum.toNat
  | .temp => s.rdTemp10.toNat
  | .water => s.wlMapped.toInt

/-- `Sum(w)`, the live sum of the current slots (42_sliding_window.md R145). -/
def State.winSum (s : State) : Win → Int
  | .hum => winSumU s.wHum
  | .temp => winSumU s.wTemp
  | .water => winSumS s.wWater

/-- `avg_sum[w]` as an integer (10_state.md R33). -/
def State.avgSum (s : State) : Win → Int
  | .hum => s.sumHum.toNat
  | .temp => s.sumTemp.toNat
  | .water => s.sumWater.toInt

/-! ## Frame -/

/-- A byte with one more bit shifted in from the right (20_memory.md R66; 41_frame_decoder.md R120). -/
def shiftIn (x : Byte) (b : Bool) : Byte := (x <<< 1) ||| (BitVec.ofBool b).setWidth 8

/-- The frame with a bit shifted into byte `k` (41_frame_decoder.md R120). -/
def frameShift (f : Vector Byte Config.FRAME_BYTES) (k : Nat) (b : Bool) : Vector Byte Config.FRAME_BYTES :=
  Vector.ofFn fun j => if j.val = k then shiftIn f[j] b else f[j]

/-! ## Readings -/

/-- The byte's temperature in tenths of a degree Fahrenheit (41_frame_decoder.md R128; 10_state.md R26). -/
def tempTenths (b : Byte) : BitVec 13 := BitVec.ofNat 13 (18 * b.toNat + 320)

/-- The water mapping `m(v)` as an integer (43_water_level.md R160, R161). -/
def waterMap (p : Params) (v : BitVec 10) : Int :=
  ((v.toNat * p.waterScale / p.adcMax : Nat) : Int) - (p.waterOffset : Int)

/-! ## Timer (45_timer_sequencer.md R200), all modulo 2^32 -/

/-- `Elapsed()`. -/
def State.elapsed (s : State) : BitVec 32 := s.tmrAcc + (if s.tmrRun then s.nowMs - s.tmrStart else 0)

/-- `Remaining()`, the countdown view. -/
def State.remaining (s : State) : BitVec 32 :=
  if s.tmrDur.toNat ≤ s.elapsed.toNat then 0 else s.tmrDur - s.elapsed

/-! ## Waits -/

/-- The duration of WAIT in steps (45_timer_sequencer.md R209). -/
def waitSteps (p : Params) : WaitSel → Nat
  | .poll => p.tPollUs
  | .retry => p.tRetryUs

end Sys2Proof.Machine
end

