-- ==== Sys2Proof/Machine/Flags.lean ====
section
/-! DEFINITION. Every condition the ops test or store in a flag (10_state.md R34). -/

namespace Sys2Proof.Machine

/-- The bit a transition's count carries (41_frame_decoder.md R119). -/
def bitOfCount (p : Params) (c : Nat) : Bool := decide (p.bitThreshold < c)

/-- Whether a transition that ends by a change of level carries a bit (41_frame_decoder.md R118). -/
def carriesBit (p : Params) (i : Nat) : Bool := decide (p.headerTransitions ≤ i) && decide (i % 2 = 0)

/-- The low eight bits of the sum of the first four bytes (30_encoding.md R79; 41_frame_decoder.md R125). -/
def frameChecksum (f : Vector Byte Config.FRAME_BYTES) : Byte :=
  BitVec.ofNat 8 (f[0].toNat + f[1].toNat + f[2].toNat + f[3].toNat)

/-- The checksum byte is right (30_encoding.md R79). -/
def checksumOk (f : Vector Byte Config.FRAME_BYTES) : Bool := f[4] == frameChecksum f

/-- `average(w) < p / q` on integers, for the sum `sum` of a window of `n` slots (42_sliding_window.md R146). -/
def avgBelow (n : Nat) (sum p q : Int) : Bool := decide (q * sum < (n : Int) * p)

/-- The water window's average is below the threshold, strictly (43_water_level.md R162, R163). -/
def State.waterLow (s : State) : Bool := avgBelow s.par.nWin (s.winSum .water) s.par.waterThreshold 1

/-- `T`: the fan's switch point in tenths of a percent, signed (44_controller.md R173). -/
def State.fanPoint (s : State) : Int := (s.setHum10.toNat : Int) - (s.par.toleranceX10 : Int)

/-- `below`: the average humidity is below the switch point (44_controller.md R173, R174). -/
def State.below (s : State) : Bool := avgBelow s.par.nWin (s.avgSum .hum) s.fanPoint 10

/-- The edge OutOfWater to HasWater (44_controller.md R177). -/
def State.refillEdge (s : State) : Bool := !s.outOfWater && s.lastOutOfWater

/-- The edge HasWater to OutOfWater (44_controller.md R178). -/
def State.emptyEdge (s : State) : Bool := s.outOfWater && !s.lastOutOfWater

/-- The alarm pin's level in step `e` of CTL_EMPTY (44_controller.md R178). -/
def alarmLevel (p : Params) (e : Nat) : Bool := decide (e % p.alarmPeriodUs < p.alarmHighUs)

/-- `IsElapsed()` (45_timer_sequencer.md R200). -/
def State.isElapsed (s : State) : Bool := decide (s.tmrDur.toNat ≤ s.elapsed.toNat)

end Sys2Proof.Machine
end

