-- ==== Sys2Proof/Machine/Controller.lean ====
section
/-! DEFINITION. One step of each controller op (44_controller.md). -/

namespace Sys2Proof.Machine

/-- DIAL_READ: the dial's value, unclamped (44_controller.md R171). -/
def execDialRead (s : State) : Host.Outcome State Fault Refusal :=
  .next { s with dial10 := s.pins.setIn }.complete

/-- SET_LATCH: the dial's value becomes the setpoint (44_controller.md R172). -/
def execSetLatch (s : State) : Host.Outcome State Fault Refusal :=
  .next { s with setHum10 := s.dial10 }.complete

/-- CTL_FAN: the fan's one switch point, unless out of water (44_controller.md R173, R176). -/
def execCtlFan (s : State) : Host.Outcome State Fault Refusal :=
  .next (
    if s.outOfWater then s.complete
    else if s.below && !s.fanOn then { s with fanOn := true }.complete
    else if !s.below && s.fanOn then { s with fanOn := false }.complete
    else s.complete)

/-- CTL_REFILL: the indicator goes out when the water returns (44_controller.md R177). -/
def execCtlRefill (s : State) : Host.Outcome State Fault Refusal :=
  .next (if s.refillEdge then { s with led := false }.complete else s.complete)

/-- CTL_EMPTY: without the edge nothing; with it the fan forced off, the indicator lit and `T_ALARM_US`
steps of the alarm pattern (44_controller.md R178, R179). -/
def execCtlEmpty (s : State) : Host.Outcome State Fault Refusal :=
  .next (
    if s.emptyEdge then
      { (if s.opE = 0 then { s with fanOn := false, led := true } else s) with alm := alarmLevel s.par s.opE.toNat }.finishAt
        s.par.tAlarmUs
    else s.complete)

/-- CTL_COMMIT: the water state kept for the next tick's edges (44_controller.md R180). -/
def execCtlCommit (s : State) : Host.Outcome State Fault Refusal :=
  .next { s with lastOutOfWater := s.outOfWater }.complete

end Sys2Proof.Machine
end

