-- ==== Sys2Proof/Machine/FrameDecoder.lean ====
section
/-! DEFINITION. One step of each frame decoder op (41_frame_decoder.md). Every read is of the state at the
start of the step (00_scope.md R14). -/

namespace Sys2Proof.Machine

/-- What DHT_START writes in its first step: the line driven low and the frame cleared
(41_frame_decoder.md R111). -/
def State.startHandshake (s : State) : State :=
  { s with
    dhtOe := true, dhtO := false
    frame := Vector.replicate Config.FRAME_BYTES 0, bitcnt := 0, decTo := false }

/-- DHT_START: `T_START_LOW_US` steps (41_frame_decoder.md R111). -/
def execDhtStart (s : State) : Host.Outcome State Fault Refusal :=
  .next ((if s.opE = 0 then s.startHandshake else s).finishAt s.par.tStartLowUs)

/-- DHT_WAKE: `T_START_HIGH_US` steps of driving high (41_frame_decoder.md R113). -/
def execDhtWake (s : State) : Host.Outcome State Fault Refusal :=
  .next ((if s.opE = 0 then { s with dhtOe := true, dhtO := true } else s).finishAt s.par.tStartHighUs)

/-- DHT_RELEASE: the line released, the decoder set to the first transition (41_frame_decoder.md R115). -/
def execDhtRelease (s : State) : Host.Outcome State Fault Refusal :=
  .next { s with dhtOe := false, decLast := true, decCnt := 0, decI := 0 }.complete

/-- `Classify(c)`: the bit is stored while the frame has room, and counted (41_frame_decoder.md R119,
R120). -/
def State.classify (s : State) (c : Nat) : State :=
  { s with
    frame := if s.bitcnt.toNat < Config.FRAME_BITS then frameShift s.frame (s.bitcnt.toNat / 8) (bitOfCount s.par c) else s.frame
    bitcnt := BitVec.ofNat 6 (min (s.bitcnt.toNat + 1) Config.BITCNT_MAX) }

/-- A sample equal to the transition's level: the `TIMEOUT_COUNT`-th ends the sampling, any other is counted
(41_frame_decoder.md R117, R121). -/
def State.sampleSame (s : State) : State :=
  if s.decCnt.toNat + 1 = s.par.timeoutCount then
    { s with decCnt := orFree 8 (Config.freeDecCnt s.draws) s.par.timeoutCount, decTo := true }.complete
  else { s with decCnt := orFree 8 (Config.freeDecCnt s.draws) (s.decCnt.toNat + 1) }.hold

/-- A sample of the other level `v`: the transition ends with the count it has, and carries a bit where
41_frame_decoder.md R118 says so; transition `MAX_TIMINGS` - 1 ends the sampling (R117). -/
def State.sampleChange (s : State) (v : Bool) : State :=
  let c := if carriesBit s.par s.decI.toNat then s.classify s.decCnt.toNat else s
  let t : State := { c with
    decLast := v, decCnt := 0
    decI := orFree 7 (Config.freeDecI s.draws) (s.decI.toNat + 1) }
  if s.decI.toNat + 1 = s.par.maxTimings then t.complete else t.hold

/-- DHT_SAMPLE: one sample of the line (41_frame_decoder.md R117). -/
def execDhtSample (s : State) : Host.Outcome State Fault Refusal :=
  .next (if s.pins.dhtI = s.decLast then s.sampleSame else s.sampleChange s.pins.dhtI)

/-- DHT_CHECK: the bit count first, then the checksum (41_frame_decoder.md R124, R126). -/
def execDhtCheck (s : State) : Host.Outcome State Fault Refusal :=
  .next (
    (if s.bitcnt.toNat < s.par.minBits then
      { s with decStatus := .timeout, rdValid := false, errTo := s.errTo + 1 }
    else if checksumOk s.frame then { s with decStatus := .ok, rdValid := true }
    else { s with decStatus := .checksum, rdValid := false, errCk := s.errCk + 1 }).complete)

/-- DHT_CONVERT: the reading of a valid frame (41_frame_decoder.md R128, R129). -/
def execDhtConvert (s : State) : Host.Outcome State Fault Refusal :=
  .next (if s.rdValid then { s with rdHum := s.frame[0], rdTemp10 := tempTenths s.frame[2] } else s).complete

end Sys2Proof.Machine
end

