-- ==== Sys2Proof/Machine/SlidingWindow.lean ====
section
/-! DEFINITION. The sliding window ops (42_sliding_window.md), each of one step. -/

namespace Sys2Proof.Machine

/-- WIN_FILL w: every slot takes `Src(w)` (42_sliding_window.md R141, R142). -/
def execWinFill (w : Win) (s : State) : Host.Outcome State Fault Refusal :=
  .next (match w with
    | .hum => { s with wHum := winFilled s.par.nWin s.rdHum }
    | .temp => { s with wTemp := winFilled s.par.nWin s.rdTemp10 }
    | .water => { s with wWater := winFilled s.par.nWin s.wlMapped }).complete

/-- WIN_SHIFT w: the oldest slot is dropped and `Src(w)` appended (42_sliding_window.md R143, R142). -/
def execWinShift (w : Win) (s : State) : Host.Outcome State Fault Refusal :=
  .next (match w with
    | .hum => { s with wHum := winShifted s.wHum s.rdHum }
    | .temp => { s with wTemp := winShifted s.wTemp s.rdTemp10 }
    | .water => { s with wWater := winShifted s.wWater s.wlMapped }).complete

/-- WIN_AVG w: `avg_sum[w]` takes the live sum (42_sliding_window.md R144). -/
def execWinAvg (w : Win) (s : State) : Host.Outcome State Fault Refusal :=
  .next (match w with
    | .hum => { s with sumHum := orFree 12 (Config.freeSumHum s.draws) (winSumU s.wHum) }
    | .temp => { s with sumTemp := orFree 17 (Config.freeSumTemp s.draws) (winSumU s.wTemp) }
    | .water => { s with sumWater := orFreeInt 12 (Config.freeSumWater s.draws) (winSumS s.wWater) }).complete

end Sys2Proof.Machine
end

