-- ==== Sys2Proof/Machine/TimerSequencer.lean ====
section
/-! DEFINITION. One step of each Timer and sequencing op (45_timer_sequencer.md). -/

namespace Sys2Proof.Machine

/-- TMR_START: a stopped timer runs on from its accumulated time (45_timer_sequencer.md R201). -/
def execTmrStart (s : State) : Host.Outcome State Fault Refusal :=
  .next (if s.tmrRun then s else { s with tmrStart := s.nowMs, tmrRun := true }).complete

/-- TMR_STOP: a running timer's time is accumulated (45_timer_sequencer.md R202). -/
def execTmrStop (s : State) : Host.Outcome State Fault Refusal :=
  .next (if s.tmrRun then { s with tmrAcc := s.tmrAcc + (s.nowMs - s.tmrStart), tmrRun := false } else s).complete

/-- TMR_RESET: no time accumulated, counting from now if running (45_timer_sequencer.md R203). -/
def execTmrReset (s : State) : Host.Outcome State Fault Refusal :=
  .next { s with tmrAcc := 0, tmrStart := s.nowMs }.complete

/-- TMR_RESTART: a fresh timer of the tick period, started now (45_timer_sequencer.md R204). -/
def execTmrRestart (s : State) : Host.Outcome State Fault Refusal :=
  .next
    { s with
      tmrDur := s.tickDur, tmrAcc := 0, tmrStart := s.nowMs, tmrRun := true }.complete

/-- BR_NOT_ELAPSED t: the tick gate (45_timer_sequencer.md R206). -/
def execBrNotElapsed (t : BitVec 8) (s : State) : Host.Outcome State Fault Refusal :=
  .next (if s.isElapsed then s.complete else s.branch t)

/-- BR_DEC_FAIL t: taken when the last check failed (45_timer_sequencer.md R207). -/
def execBrDecFail (t : BitVec 8) (s : State) : Host.Outcome State Fault Refusal :=
  .next (if s.rdValid then s.complete else s.branch t)

/-- JMP t (45_timer_sequencer.md R208). -/
def execJmp (t : BitVec 8) (s : State) : Host.Outcome State Fault Refusal :=
  .next (s.branch t)

/-- WAIT w: a delay of `waitSteps w` steps (45_timer_sequencer.md R209). -/
def execWait (w : WaitSel) (s : State) : Host.Outcome State Fault Refusal :=
  .next (s.finishAt (waitSteps s.par w))

/-- NOP (45_timer_sequencer.md R210). -/
def execNop (s : State) : Host.Outcome State Fault Refusal :=
  .next s.complete

end Sys2Proof.Machine
end

