-- ==== Sys2Proof/Machine/WaterLevel.lean ====
section
/-! DEFINITION. The water level ops (43_water_level.md), each of one step. The strobe `adc_rd` of WL_SAMPLE
is an output of the step, in Machine/Status.lean. -/

namespace Sys2Proof.Machine

/-- WL_SAMPLE: the converter's value and its mapping (43_water_level.md R160, R161, R165). -/
def execWlSample (s : State) : Host.Outcome State Fault Refusal :=
  .next { s with wlRaw := s.pins.adcVal, wlMapped := orFreeInt 8 (Config.freeWlMapped s.draws) (waterMap s.par s.pins.adcVal) }.complete

/-- WL_EVAL: the out-of-water comparator on the live sum (43_water_level.md R162, R163). -/
def execWlEval (s : State) : Host.Outcome State Fault Refusal :=
  .next { s with outOfWater := s.waterLow }.complete

end Sys2Proof.Machine
end

