-- ==== Sys2Proof/Machine/Dispatch.lean ====
section
/-! DEFINITION. `exec`: one step of a micro-operation, one arm for each constructor of `Instr`. -/

namespace Sys2Proof.Machine

def exec (i : Instr) (s : State) : Host.Outcome State Fault Refusal :=
  match i with
  | .nop => Sys2Proof.Machine.execNop s
  | .dhtStart => Sys2Proof.Machine.execDhtStart s
  | .dhtWake => Sys2Proof.Machine.execDhtWake s
  | .dhtRelease => Sys2Proof.Machine.execDhtRelease s
  | .dhtSample => Sys2Proof.Machine.execDhtSample s
  | .dhtCheck => Sys2Proof.Machine.execDhtCheck s
  | .dhtConvert => Sys2Proof.Machine.execDhtConvert s
  | .winFill w => Sys2Proof.Machine.execWinFill w s
  | .winShift w => Sys2Proof.Machine.execWinShift w s
  | .winAvg w => Sys2Proof.Machine.execWinAvg w s
  | .wlSample => Sys2Proof.Machine.execWlSample s
  | .wlEval => Sys2Proof.Machine.execWlEval s
  | .dialRead => Sys2Proof.Machine.execDialRead s
  | .setLatch => Sys2Proof.Machine.execSetLatch s
  | .ctlFan => Sys2Proof.Machine.execCtlFan s
  | .ctlRefill => Sys2Proof.Machine.execCtlRefill s
  | .ctlEmpty => Sys2Proof.Machine.execCtlEmpty s
  | .ctlCommit => Sys2Proof.Machine.execCtlCommit s
  | .tmrStart => Sys2Proof.Machine.execTmrStart s
  | .tmrStop => Sys2Proof.Machine.execTmrStop s
  | .tmrReset => Sys2Proof.Machine.execTmrReset s
  | .tmrRestart => Sys2Proof.Machine.execTmrRestart s
  | .brNotElapsed t => Sys2Proof.Machine.execBrNotElapsed t s
  | .brDecFail t => Sys2Proof.Machine.execBrDecFail t s
  | .jmp t => Sys2Proof.Machine.execJmp t s
  | .wait w => Sys2Proof.Machine.execWait w s

end Sys2Proof.Machine
end

