-- ==== Sys2Proof/Machine/Step.lean ====
section
/-! DEFINITION. The sequencer step (45_timer_sequencer.md R211): reset before the fault state before the
fetched op, then the time counters; and the host's placing of one op word. -/

namespace Sys2Proof.Machine

/-- One step of one microsecond. An illegal word is found before any effect of an op (45_timer_sequencer.md
R212; 60_exceptions.md R235). -/
def step (s : State) : Host.Outcome State Fault Refusal :=
  if s.pins.rst then .next s.resetStep
  else if s.faulted then .next s.endStep
  else
    match s.fetch with
    | none => .next s.faultEntry.endStep
    | some i =>
      match exec i s with
      | .next t => .next t.endStep
      | .fault r => .fault r
      | .refused r => .refused r

/-- `s` with the op word fitted at `ROM[upc]`, reset released for this step and the fault state left, which
is all a step needs in order to fetch and run that word (log entry 9). -/
def State.withFetchWord (s : State) (nbits w : Nat) : State :=
  { s.withPins { s.pins with rst := false } with
    rom := romPut s.rom s.upc (BitVec.ofNat 16 (w % 2 ^ nbits)), faulted := false }

end Sys2Proof.Machine
end

