-- ==== Sys2Proof/Machine/Status.lean ====
section
/-! DEFINITION. What the outside sees of a state: the status view (10_state.md R46, R47; 20_memory.md R63),
the output pins (10_state.md R21, R42; 43_water_level.md R160) and the data line (10_state.md R22). Reading
writes nothing (20_memory.md R64), so these are functions of the state alone. -/

namespace Sys2Proof.Machine

/-- The code of a decode outcome (10_state.md R35; 30_encoding.md R91). -/
def DecStatus.code : DecStatus → BitVec 2
  | .none => 0
  | .ok => 1
  | .timeout => 2
  | .checksum => 3

/-- One bit of a status word. -/
abbrev bit (b : Bool) : BitVec 1 := BitVec.ofBool b

/-- The constant `ID` (10_state.md R46). -/
def statId : StatWord := 0x44485431

/-- `CTRL` (10_state.md R47), bit 11 first; bits 31:12 read 0. -/
def State.ctrlWord (s : State) : StatWord :=
  (bit s.faulted ++ bit s.dhtO ++ bit s.dhtOe ++ bit s.tmrRun ++ s.decStatus.code ++ bit s.rdValid ++ bit s.alm
    ++ bit s.led ++ bit s.lastOutOfWater ++ bit s.outOfWater ++ bit s.fanOn : BitVec 12).setWidth 32

/-- `READING`: `rd_temp10` in 28:16, `rd_hum` in 7:0. -/
def State.readingWord (s : State) : StatWord := (0#3 ++ s.rdTemp10 ++ 0#8 ++ s.rdHum : BitVec 32)

/-- `FRAME_LO`: the lower-numbered byte in the lower-numbered bits (20_memory.md R67). -/
def State.frameLoWord (s : State) : StatWord := (s.frame[3] ++ s.frame[2] ++ s.frame[1] ++ s.frame[0] : BitVec 32)

/-- `FRAME_HI`: `dec_to` in 16, `bitcnt` in 13:8, `frame[4]` in 7:0. -/
def State.frameHiWord (s : State) : StatWord := (0#15 ++ bit s.decTo ++ 0#2 ++ s.bitcnt ++ s.frame[4] : BitVec 32)

/-- `WATER`: `wl_mapped` in 23:16, `wl_raw` in 9:0. -/
def State.waterWord (s : State) : StatWord := (0#8 ++ s.wlMapped ++ 0#6 ++ s.wlRaw : BitVec 32)

/-- `SEQ`: the low 24 bits of `op_e` in 31:8, `upc` in 7:0. -/
def State.seqWord (s : State) : StatWord := (s.opE.extractLsb' 0 24 ++ s.upc : BitVec 32)

/-- `DECODER`: `dec_last` in 16, `dec_cnt` in 15:8, `dec_i` in 6:0. -/
def State.decoderWord (s : State) : StatWord := (0#15 ++ bit s.decLast ++ s.decCnt ++ 0#1 ++ s.decI : BitVec 32)

/-- Slot `i - base` of a window, widened, where the index is one of the 14 that the map gives the window; 0 at any
other index. A listed slot that the window does not have (`N_WIN` below 14) reads as a free value (log entry 17). -/
def State.slotWord {n : Nat} (s : State) (w : List (BitVec n)) (widen : BitVec n → StatWord) (base i : Nat) : StatWord :=
  if base ≤ i ∧ i < base + Config.VIEW_SLOTS then ((w[i - base]?).map widen).getD (Config.freeSlotWord i s.draws) else 0

/-- `StatusRead(index)`: the status word at an index (10_state.md R46; 20_memory.md R63); every index R46
does not list reads 0. -/
def State.statusRead (s : State) (index : BitVec 8) : StatWord :=
  match index.toNat with
  | 0x00 => statId
  | 0x01 => s.ctrlWord
  | 0x02 => s.setHum10.setWidth 32
  | 0x03 => s.dial10.setWidth 32
  | 0x04 => s.sumHum.setWidth 32
  | 0x05 => s.sumTemp.setWidth 32
  | 0x06 => s.sumWater.signExtend 32
  | 0x07 => s.readingWord
  | 0x08 => s.frameLoWord
  | 0x09 => s.frameHiWord
  | 0x0A => s.errTo
  | 0x0B => s.errCk
  | 0x0C => s.waterWord
  | 0x0D => s.tmrDur
  | 0x0E => s.tmrStart
  | 0x0F => s.tmrAcc
  | 0x10 => s.nowMs
  | 0x11 => s.seqWord
  | 0x12 => s.decoderWord
  | i =>
    if i < 0x20 then 0
    else if i < 0x30 then s.slotWord s.wHum (fun v => v.setWidth 32) 0x20 i
    else if i < 0x40 then s.slotWord s.wTemp (fun v => v.setWidth 32) 0x30 i
    else if i < 0x50 then s.slotWord s.wWater (fun v => v.signExtend 32) 0x40 i
    else 0

/-- The output pins during one step (10_state.md R21). -/
structure PinOut where
  dhtOe : Bool
  dhtO : Bool
  fanOn : Bool
  ledLowWater : Bool
  alarm : Bool
  faulted : Bool
  adcRd : Bool
  statData : StatWord
  deriving DecidableEq, Repr

/-- `adc_rd`: 1 in exactly the steps that run WL_SAMPLE (43_water_level.md R160). DESIGN CHOICE (log entry 11): in
step 0, the step right after reset, it is 1, because that step runs WL_SAMPLE (70_reset_and_hazards.md R261),
although R262 lists `adc_rd = 0` "in reset and right after it". -/
def State.adcRd (s : State) : Bool := !s.pins.rst && !s.faulted && s.fetch == some .wlSample

/-- The output pins: each shows the register of its name (10_state.md R42), but for the two that are
combinational. -/
def State.pinsOut (s : State) : PinOut where
  dhtOe := s.dhtOe
  dhtO := s.dhtO
  fanOn := s.fanOn
  ledLowWater := s.led
  alarm := s.alm
  faulted := s.faulted
  adcRd := s.adcRd
  statData := s.statusRead s.pins.statIdx

/-- The level the data line carries: the block's while it drives, else whatever the sensor and the pull-up
make it (10_state.md R22). -/
def State.dataLine (s : State) : Bool := if s.dhtOe then s.dhtO else s.pins.dhtI

end Sys2Proof.Machine
end

