-- ==== Sys2Proof/Safety.lean ====
section
/-! DEFINITION. The terms claims are stated in: runs, steps free of reset, and the invariants of a safe run.
A run that reaches the fault state has gone wrong (60_exceptions.md R234). -/

namespace Sys2Proof.Machine

/-! ## Runs -/

/-- `n` steps of the machine. -/
def State.run : Nat → State → Host.Outcome State Fault Refusal
  | 0, s => .next s
  | n + 1, s =>
    match step s with
    | .next t => State.run n t
    | .fault r => .fault r
    | .refused r => .refused r

/-- Reset is not asserted during the next `n` steps. -/
def NoReset (s : State) (n : Nat) : Prop := ∀ k, k < n → (s.pinsAt k).rst = false

/-- The sequencer is not faulted and stands at the micro-operation `i`. -/
def AtOp (s : State) (i : Instr) : Prop := s.faulted = false ∧ s.fetch = some i

/-- Milliseconds and microseconds since reset as one count of steps (10_state.md R40). -/
def State.stepCount (s : State) : Nat := s.nowMs.toNat * 1000 + s.tUs.val

/-! ## Any microprogram -/

/-- In the fault state the fan and the alarm are off and the line is released (60_exceptions.md R233). -/
def FaultSafe (s : State) : Prop :=
  s.faulted = true → s.fanOn = false ∧ s.alm = false ∧ s.dhtOe = false ∧ s.opE = 0

/-- Each window has exactly `N_WIN` slots, at least one (10_state.md R32; 42_sliding_window.md R148). -/
def WindowsOk (s : State) : Prop :=
  1 ≤ s.par.nWin ∧ s.wHum.length = s.par.nWin ∧ s.wTemp.length = s.par.nWin ∧ s.wWater.length = s.par.nWin

/-- Readings, windows and sums stay in the ranges 10_state.md R26, R28, R32 and R33 give: a temperature is 0
(reset) or 320 to 4910; with this hardware's parameters a mapped water level is -1 to 99 and the sums are those of
14 values. -/
def RangesOk (s : State) : Prop :=
  WindowsOk s ∧
  (s.rdTemp10 = 0 ∨ 320 ≤ s.rdTemp10.toNat) ∧ s.rdTemp10.toNat ≤ 4910 ∧ (∀ v ∈ s.wTemp, v.toNat ≤ 4910) ∧
  (s.par = .hardware →
    (-1 ≤ s.wlMapped.toInt ∧ s.wlMapped.toInt ≤ 99) ∧ (∀ v ∈ s.wWater, -1 ≤ v.toInt ∧ v.toInt ≤ 99) ∧
    s.sumHum.toNat ≤ 3570 ∧ s.sumTemp.toNat ≤ 68740 ∧ (-14 ≤ s.sumWater.toInt ∧ s.sumWater.toInt ≤ 1386))

/-! ## The normative microprogram (45_timer_sequencer.md R215) -/

/-- The normative ROM is fitted: no byte of it differs. -/
def NormativeRom (s : State) : Prop := s.rom = []

/-- The sequencer is inside the microprogram and not faulted (45_timer_sequencer.md R212, R216). -/
def InProgram (s : State) : Prop := NormativeRom s ∧ s.faulted = false ∧ s.upc.toNat ≤ lastUsedIndex

/-- The most steps the op at a ROM index of the microprogram takes on this hardware, less one
(70_reset_and_hazards.md R280): what `op_e` may reach there. -/
def opCountLimit (k : Nat) : Nat :=
  if k = 0x05 ∨ k = 0x1A then 17999
  else if k = 0x06 ∨ k = 0x1B then 39
  else if k = 0x08 ∨ k = 0x1D then 21674
  else if k = 0x28 then 2999999
  else if k = 0x12 then 1999999
  else if k = 0x2B then 99999
  else 0

/-- The classified transitions before transition `i`: 4, 6, … (41_frame_decoder.md R118). -/
def bitsBefore (i : Nat) : Nat := (i - 3) / 2

/-- On this hardware: the step counter stays below the op's duration; `dec_i` is at most 85 and `bitcnt` at most
41 at every index (10_state.md R29, R37); and while DHT_SAMPLE runs, the decoder's registers have the values its
step count allows, with one bit for each classified transition and no timeout recorded. -/
def CountersOk (s : State) : Prop :=
  InProgram s ∧ s.par = .hardware ∧ s.opE.toNat ≤ opCountLimit s.upc.toNat ∧
  s.decI.toNat ≤ 85 ∧ s.bitcnt.toNat ≤ 41 ∧
  ((s.upc.toNat = 0x05 ∨ s.upc.toNat = 0x1A) ∧ s.opE ≠ 0 ∨ s.upc.toNat = 0x06 ∨ s.upc.toNat = 0x1B ∨
      s.upc.toNat = 0x07 ∨ s.upc.toNat = 0x1C → s.bitcnt = 0 ∧ s.decTo = false) ∧
  (s.upc.toNat = 0x08 ∨ s.upc.toNat = 0x1D →
    s.decI.toNat ≤ 84 ∧ s.decCnt.toNat ≤ 254 ∧ s.decTo = false ∧ s.bitcnt.toNat = bitsBefore s.decI.toNat ∧
    s.opE.toNat ≤ 255 * s.decI.toNat + s.decCnt.toNat)

/-- The block drives the data line only inside a start handshake: from the first step of a DHT_START (0x05,
0x1A) to the DHT_RELEASE two ops later (41_frame_decoder.md R130). -/
def LineDriveOk (s : State) : Prop :=
  CountersOk s ∧
  (s.dhtOe = true →
    (s.upc.toNat = 0x05 ∧ s.opE ≠ 0) ∨ s.upc.toNat = 0x06 ∨ s.upc.toNat = 0x07 ∨
    (s.upc.toNat = 0x1A ∧ s.opE ≠ 0) ∨ s.upc.toNat = 0x1B ∨ s.upc.toNat = 0x1C)

/-- The controller between and inside ticks (44_controller.md R182; 70_reset_and_hazards.md R265):
before WL_EVAL of a tick (0x19) and after its CTL_COMMIT (0x29), `lastOutOfWater` equals `outOfWater` and out
of water means fan off; between them, fan off is kept where the water was out before and still is; from the
alarm's first step on the fan is off; the alarm pin is high only while CTL_EMPTY (0x28) runs; and during
start-up the fan, the indicator and the alarm are off and no water state is held. -/
def ControlOk (s : State) : Prop :=
  CountersOk s ∧
  (s.upc.toNat ≤ 0x19 ∨ 0x2A ≤ s.upc.toNat →
    s.lastOutOfWater = s.outOfWater ∧ (s.outOfWater = true → s.fanOn = false)) ∧
  (0x1A ≤ s.upc.toNat ∧ s.upc.toNat ≤ 0x28 → s.outOfWater = true → s.lastOutOfWater = true → s.fanOn = false) ∧
  (s.upc.toNat = 0x28 → s.opE ≠ 0 → s.emptyEdge = true ∧ s.fanOn = false ∧ s.led = true) ∧
  (s.upc.toNat = 0x29 → s.outOfWater = true → s.fanOn = false) ∧
  (s.alm = true → s.upc.toNat = 0x28 ∧ s.opE ≠ 0) ∧
  (s.upc.toNat ≤ 0x13 → s.fanOn = false ∧ s.led = false ∧ s.outOfWater = false ∧ s.lastOutOfWater = false)

end Sys2Proof.Machine
end

