-- ==== Sys2Proof/Certificates/Slice0/Obligations.lean ====
section
/-! DEFINITION. The statements for the provers. Next states are written with the formulas of spec/, and as the
whole state (`{ s with … }`), so that each says what its op changes and that nothing else changes: no op of this
hardware stores to memory, and the ROM and the parameters are among the fields. The steps of the ops are stated for
every value of the parameters (00_scope.md R11: `s.par`); what the spec derives for the values in R11's table is
stated for `Params.hardware`. -/

open Sys2Proof Sys2Proof.Machine

/-! ## Encoding (30_encoding.md) -/

/-- Every micro-operation, with every operand, is read back from its op word. -/
def Obligations.DecodeOfEncodeIsTheOp : Prop := ∀ i : Instr, decode (encode i) = some i

/-- Every legal op word is the one word of its micro-operation: no bit of it is dropped. -/
def Obligations.EncodeOfDecodeIsTheWord : Prop := ∀ (w : OpWord) (i : Instr), decode w = some i → encode i = w

/-- The decoder refuses exactly the words that R85 (a) to (e) call illegal, with `opc`, `w` and `imm8` taken
from the word as R80 places them. -/
def Obligations.DecoderRefusesExactlyIllegalWords : Prop :=
  ∀ x : OpWord,
    let opc := x.toNat / 1024
    let w := x.toNat / 256 % 4
    let imm8 := x.toNat % 256
    let isWindow := opc = 0x08 ∨ opc = 0x09 ∨ opc = 0x0A
    let isWait := opc = 0x2B
    let isBranch := opc = 0x28 ∨ opc = 0x29 ∨ opc = 0x2A
    decode x = none ↔
      (opc = 0x07 ∨ (0x0B ≤ opc ∧ opc ≤ 0x0F) ∨ (0x12 ≤ opc ∧ opc ≤ 0x17) ∨ opc = 0x1E ∨ opc = 0x1F ∨
        (0x24 ≤ opc ∧ opc ≤ 0x27) ∨ 0x2C ≤ opc) ∨
      (isWindow ∧ w = 3) ∨ (isWait ∧ 2 ≤ w) ∨ (¬isWindow ∧ ¬isWait ∧ w ≠ 0) ∨ (¬isBranch ∧ imm8 ≠ 0)

/-- A word of every family of the opcode map decodes to its op, and the illegal words of the test vectors to
none. -/
def Obligations.SpecWordsDecode : Prop :=
  decode 0x0000 = some .nop ∧ decode 0x0400 = some .dhtStart ∧ decode 0x1400 = some .dhtCheck ∧
  decode 0x2600 = some (.winShift .water) ∧ decode 0x2900 = some (.winAvg .temp) ∧
  decode 0x4000 = some .wlSample ∧ decode 0x7000 = some .ctlEmpty ∧ decode 0x8C00 = some .tmrRestart ∧
  decode 0xA423 = some (.brDecFail 0x23) ∧ decode 0xA814 = some (.jmp 0x14) ∧ decode 0xAD00 = some (.wait .retry) ∧
  decode 0x1C00 = none ∧ decode 0x2300 = none ∧ decode 0xAE00 = none ∧ decode 0x0500 = none ∧
  decode 0x0401 = none ∧ decode 0xFFFF = none

/-- The microprogram's assembly, its pseudo-ops expanded (R88, R89), assembles to the 45 words of R215, with the labels
of R214 at their indices; that the assembler takes lines and not text is the model's choice (log entry 14). The ROM
that the sequencer fetches from at reset holds these words, and 0xFFFF at every index above 0x2C. Each of the 45
decodes to an op whose target, if it has one, is one of the five labels, and the last is an unconditional jump: the
flow of R216, which the spec derives; that no run leaves it is NormativeProgramNeverFaults. -/
def Obligations.AssemblyGivesTheRomWords : Prop :=
  assemble microprogramAsm = some microprogram ∧ microprogram.length = 0x2D ∧
  asmLabels 0 microprogramAsm =
    [("INIT_TRY", 0x05), ("INIT_WAIT", 0x12), ("LOOP", 0x14), ("AVG", 0x23), ("POLL_WAIT", 0x2B)] ∧
  (∀ k : BitVec 8, romWord State.reset.rom k = (microprogram[k.toNat]?).getD 0xFFFF) ∧
  (∀ k : BitVec 8, k.toNat ≤ 0x2C → ∃ i, decode (romWord State.reset.rom k) = some i ∧
    ∀ t : BitVec 8, i = .brNotElapsed t ∨ i = .brDecFail t ∨ i = .jmp t →
      t = 0x05 ∨ t = 0x12 ∨ t = 0x14 ∨ t = 0x23 ∨ t = 0x2B) ∧
  decode (romWord State.reset.rom 0x2C) = some (.jmp 0x14) ∧ decode 0xFFFF = none

/-! ## The sequencer step (45_timer_sequencer.md section 3, 60_exceptions.md, 70_reset_and_hazards.md) -/

/-- With reset and the fault state away, a step runs the decoded op and then counts one microsecond; the
environment moves on to its next draw. The inputs as draws are the model's (log entry 1). -/
def Obligations.StepRunsTheFetchedOp : Prop :=
  ∀ (s : State) (i : Instr), s.pins.rst = false → s.faulted = false → decode (romWord s.rom s.upc) = some i →
    ∃ t, exec i s = .next t ∧
      step s = .next { t with
        tUs := if s.tUs.val = 999 then 0 else s.tUs + 1
        nowMs := if s.tUs.val = 999 then s.nowMs + 1 else s.nowMs
        script := s.script.tail, draws := s.draws + 1 }

/-- A step with `rst` = 1 is a reset step, whatever else holds: every element takes its reset value and time
does not advance. That the ROM and the parameters pass through is the model's reading (log entry 3). -/
def Obligations.ResetStepOverridesEverything : Prop :=
  ∀ s : State, s.pins.rst = true →
    ∃ d : BitVec 32, (s.par.tickPeriodMs < 2 ^ 32 → d.toNat = s.par.tickPeriodMs) ∧
      step s = .next { State.reset with
        wHum := List.replicate s.par.nWin 0, wTemp := List.replicate s.par.nWin 0
        wWater := List.replicate s.par.nWin 0, tmrDur := d, par := s.par, rom := s.rom, script := s.script.tail
        draws := s.draws + 1 }

/-- Every state element's reset value, and the op at the entry point. -/
def Obligations.ResetValuesAreTheTable : Prop :=
  let r := State.reset
  (r.dhtOe = false ∧ r.dhtO = true ∧ r.rdHum.toNat = 0 ∧ r.rdTemp10.toNat = 0 ∧ r.rdValid = false ∧
    (∀ k : Fin 5, r.frame[k].toNat = 0) ∧ r.bitcnt.toNat = 0 ∧ r.decTo = false ∧ r.decI.toNat = 0 ∧
    r.decCnt.toNat = 0 ∧ r.decLast = true ∧ r.decStatus = .none ∧ r.decStatus.code.toNat = 0) ∧
  (r.errTo.toNat = 0 ∧ r.errCk.toNat = 0 ∧ r.fanOn = false ∧ r.outOfWater = false ∧ r.lastOutOfWater = false ∧
    r.setHum10.toNat = 0 ∧ r.dial10.toNat = 0 ∧ r.led = false ∧ r.alm = false ∧ r.wlRaw.toNat = 0 ∧
    r.wlMapped.toNat = 0 ∧
    r.wHum = List.replicate 14 0 ∧ r.wTemp = List.replicate 14 0 ∧ r.wWater = List.replicate 14 0) ∧
  (r.sumHum.toNat = 0 ∧ r.sumTemp.toNat = 0 ∧ r.sumWater.toNat = 0 ∧ r.tmrDur.toNat = 2000 ∧
    r.tmrStart.toNat = 0 ∧ r.tmrAcc.toNat = 0 ∧ r.tmrRun = false ∧ r.tUs.val = 0 ∧ r.nowMs.toNat = 0 ∧
    r.upc.toNat = 0 ∧ r.opE.toNat = 0 ∧ r.faulted = false) ∧
  r.fetch = some .wlSample

/-- In the fault state no op runs: for as long as reset stays away only the time counters move. The fault state
as a next state is the model's reading (log entry 7). -/
def Obligations.FaultStateLetsOnlyTimePass : Prop :=
  ∀ (n : Nat) (s : State), NoReset s n → s.faulted = true →
    ∃ t, s.run n = .next t ∧
      t = { s with tUs := t.tUs, nowMs := t.nowMs, script := s.script.drop n, draws := s.draws + n } ∧
      t.stepCount = (s.stepCount + n) % (1000 * 2 ^ 32)

/-- Fetching an illegal word enters the fault state and writes nothing else. The fault state as a next state is
the model's reading (log entry 7). -/
def Obligations.IllegalWordEntersTheFaultState : Prop :=
  ∀ s : State, s.pins.rst = false → s.faulted = false → illegalWord (romWord s.rom s.upc) = true →
    step s = .next { s with
      faulted := true, fanOn := false, alm := false, dhtOe := false, opE := 0
      tUs := if s.tUs.val = 999 then 0 else s.tUs + 1
      nowMs := if s.tUs.val = 999 then s.nowMs + 1 else s.nowMs
      script := s.script.tail, draws := s.draws + 1 }

/-- No step stops the machine: every state has a next state. The model's reading of the fault state (log entry
7). -/
def Obligations.EveryStepHasANextState : Prop := ∀ s : State, ∃ t, step s = .next t

/-- A run of `n` reset-free steps takes `n` microseconds of the time counters, modulo 2^32 milliseconds, in
every state and whatever runs; from zero, `now_ms` is `n` div 1000 and `t_us` is `n` mod 1000. -/
def Obligations.RunOfStepsTakesThatManyMicroseconds : Prop :=
  ∀ (n : Nat) (s t : State), NoReset s n → s.run n = .next t →
    t.stepCount = (s.stepCount + n) % (1000 * 2 ^ 32) ∧
    (s.stepCount = 0 → t.nowMs.toNat = n / 1000 % 2 ^ 32 ∧ t.tUs.val = n % 1000)

/-! ## Who writes what (10_state.md) -/

/-- No op writes the time counters, the fault flag, the parameters, the ROM or the environment's inputs. The
parameters, the ROM and the inputs as fields are the model's (log entries 1, 2, 6). -/
def Obligations.OpsLeaveTimeFaultAndRom : Prop :=
  ∀ (i : Instr) (s t : State), exec i s = .next t →
    t.tUs = s.tUs ∧ t.nowMs = s.nowMs ∧ t.faulted = s.faulted ∧ t.par = s.par ∧ t.rom = s.rom ∧
    t.script = s.script ∧ t.draws = s.draws

/-- Only the five multi-step ops can keep `upc`; every other op completes in its step, with `op_e` 0 and `upc`
at the next index or at its target. -/
def Obligations.SingleStepOpsComplete : Prop :=
  ∀ (i : Instr) (s t : State), exec i s = .next t →
    (i = .dhtStart ∨ i = .dhtWake ∨ i = .dhtSample ∨ (i = .ctlEmpty ∧ s.emptyEdge = true) ∨ ∃ w, i = .wait w) ∨
    (t.opE = 0 ∧
      (t.upc = s.upc + 1 ∨ ∃ x, t.upc = x ∧ (i = .jmp x ∨ i = .brDecFail x ∨ i = .brNotElapsed x)))

/-- The line's registers are written by DHT_START, DHT_WAKE and DHT_RELEASE alone. -/
def Obligations.OnlyHandshakeOpsDriveTheLine : Prop :=
  ∀ (i : Instr) (s t : State), exec i s = .next t → i ≠ .dhtStart → i ≠ .dhtWake → i ≠ .dhtRelease →
    t.dhtOe = s.dhtOe ∧ t.dhtO = s.dhtO

/-- Which decoder op writes which reading, frame, working or status register. -/
def Obligations.DecoderRegistersHaveTheirWriters : Prop :=
  ∀ (i : Instr) (s t : State), exec i s = .next t →
    (i ≠ .dhtStart → i ≠ .dhtSample → t.frame = s.frame ∧ t.bitcnt = s.bitcnt ∧ t.decTo = s.decTo) ∧
    (i ≠ .dhtRelease → i ≠ .dhtSample → t.decI = s.decI ∧ t.decCnt = s.decCnt ∧ t.decLast = s.decLast) ∧
    (i ≠ .dhtCheck →
      t.rdValid = s.rdValid ∧ t.decStatus = s.decStatus ∧ t.errTo = s.errTo ∧ t.errCk = s.errCk) ∧
    (i ≠ .dhtConvert → t.rdHum = s.rdHum ∧ t.rdTemp10 = s.rdTemp10)

/-- Which op writes which controller, actuator, setpoint or water register. -/
def Obligations.ControllerRegistersHaveTheirWriters : Prop :=
  ∀ (i : Instr) (s t : State), exec i s = .next t →
    (i ≠ .ctlFan → i ≠ .ctlEmpty → t.fanOn = s.fanOn) ∧
    (i ≠ .wlEval → t.outOfWater = s.outOfWater) ∧
    (i ≠ .ctlCommit → t.lastOutOfWater = s.lastOutOfWater) ∧
    (i ≠ .setLatch → t.setHum10 = s.setHum10) ∧
    (i ≠ .dialRead → t.dial10 = s.dial10) ∧
    (i ≠ .ctlRefill → i ≠ .ctlEmpty → t.led = s.led) ∧
    (i ≠ .ctlEmpty → t.alm = s.alm) ∧
    (i ≠ .wlSample → t.wlRaw = s.wlRaw ∧ t.wlMapped = s.wlMapped)

/-- Each window is written by its own WIN_FILL and WIN_SHIFT alone, each sum by its own WIN_AVG alone, and the
Timer by the four Timer ops alone. -/
def Obligations.WindowsAndTimerHaveTheirWriters : Prop :=
  ∀ (i : Instr) (s t : State), exec i s = .next t →
    (i ≠ .winFill .hum → i ≠ .winShift .hum → t.wHum = s.wHum) ∧
    (i ≠ .winFill .temp → i ≠ .winShift .temp → t.wTemp = s.wTemp) ∧
    (i ≠ .winFill .water → i ≠ .winShift .water → t.wWater = s.wWater) ∧
    (i ≠ .winAvg .hum → t.sumHum = s.sumHum) ∧ (i ≠ .winAvg .temp → t.sumTemp = s.sumTemp) ∧
    (i ≠ .winAvg .water → t.sumWater = s.sumWater) ∧
    (i ≠ .tmrStart → i ≠ .tmrStop → i ≠ .tmrReset → i ≠ .tmrRestart →
      t.tmrDur = s.tmrDur ∧ t.tmrStart = s.tmrStart ∧ t.tmrAcc = s.tmrAcc ∧ t.tmrRun = s.tmrRun)

/-! ## Frame decoder ops (41_frame_decoder.md) -/

/-- DHT_START drives the line low and clears the frame in its first step; step `T_START_LOW_US` - 1 completes it,
any other counts on. The counter's next value is stated where it fits 32 bits (log entry 4). -/
def Obligations.DhtStartStep : Prop :=
  ∀ s : State, ∃ e : BitVec 32, (s.opE.toNat + 1 < 2 ^ 32 → e.toNat = s.opE.toNat + 1) ∧
    exec .dhtStart s = .next { s with
      dhtOe := if s.opE = 0 then true else s.dhtOe
      dhtO := if s.opE = 0 then false else s.dhtO
      frame := if s.opE = 0 then #v[0, 0, 0, 0, 0] else s.frame
      bitcnt := if s.opE = 0 then 0 else s.bitcnt
      decTo := if s.opE = 0 then false else s.decTo
      opE := if s.opE.toNat + 1 = s.par.tStartLowUs then 0 else e
      upc := if s.opE.toNat + 1 = s.par.tStartLowUs then s.upc + 1 else s.upc }

/-- DHT_WAKE drives the line high in its first step; step `T_START_HIGH_US` - 1 completes it. WAIT changes
nothing but its counter and, in its last step, `upc`. -/
def Obligations.DhtWakeAndWaitStep : Prop :=
  ∀ s : State, ∃ e : BitVec 32, (s.opE.toNat + 1 < 2 ^ 32 → e.toNat = s.opE.toNat + 1) ∧
    exec .dhtWake s = .next { s with
      dhtOe := if s.opE = 0 then true else s.dhtOe
      dhtO := if s.opE = 0 then true else s.dhtO
      opE := if s.opE.toNat + 1 = s.par.tStartHighUs then 0 else e
      upc := if s.opE.toNat + 1 = s.par.tStartHighUs then s.upc + 1 else s.upc } ∧
    exec (.wait .poll) s = .next { s with
      opE := if s.opE.toNat + 1 = s.par.pollPeriodMs * 1000 then 0 else e
      upc := if s.opE.toNat + 1 = s.par.pollPeriodMs * 1000 then s.upc + 1 else s.upc } ∧
    exec (.wait .retry) s = .next { s with
      opE := if s.opE.toNat + 1 = s.par.initRetryMs * 1000 then 0 else e
      upc := if s.opE.toNat + 1 = s.par.initRetryMs * 1000 then s.upc + 1 else s.upc }

/-- DHT_RELEASE releases the line, keeps `dht_o`, and sets the decoder to transition 0 at level 1. -/
def Obligations.DhtReleaseStep : Prop :=
  ∀ s : State,
    exec .dhtRelease s =
      .next { s with dhtOe := false, decLast := true, decCnt := 0, decI := 0, opE := 0, upc := s.upc + 1 }

/-- DHT_SAMPLE on a sample equal to the transition's level: number `TIMEOUT_COUNT` of them sets `dec_cnt` to that
count and `dec_to` and completes the op, and classifies nothing; any other is counted. The counters' next values
are stated where they fit (log entry 4). -/
def Obligations.DhtSampleOnTheSameLevel : Prop :=
  ∀ s : State, s.pins.dhtI = s.decLast →
    ∃ (c x : BitVec 8) (e : BitVec 32), (s.decCnt.toNat ≤ 254 → c.toNat = s.decCnt.toNat + 1) ∧
      (s.par.timeoutCount ≤ 255 → x.toNat = s.par.timeoutCount) ∧
      (s.opE.toNat + 1 < 2 ^ 32 → e.toNat = s.opE.toNat + 1) ∧
      exec .dhtSample s = .next (
        if s.decCnt.toNat + 1 = s.par.timeoutCount then { s with decCnt := x, decTo := true, opE := 0, upc := s.upc + 1 }
        else { s with decCnt := c, opE := e })

/-- DHT_SAMPLE on a sample of the other level: the transition ends; it is classified exactly when its index is at
least `HEADER_TRANSITIONS` and even, as a 1 exactly when its count exceeds `BIT_THRESHOLD` (16), the bit shifted into
byte `bitcnt` div 8 while `bitcnt` is below 40, and `bitcnt` stops at 63; transition `MAX_TIMINGS` - 1 completes the
op. The counters' next values are stated where they fit (log entry 4). -/
def Obligations.DhtSampleOnALevelChange : Prop :=
  Params.hardware.bitThreshold = 16 ∧
  ∀ s : State, s.pins.dhtI ≠ s.decLast →
    ∃ t, exec .dhtSample s = .next t ∧
      t = { s with
        frame := t.frame, bitcnt := t.bitcnt, decLast := s.pins.dhtI, decCnt := 0, decI := t.decI, opE := t.opE
        upc := t.upc } ∧
      (s.decI.toNat < 127 → t.decI.toNat = s.decI.toNat + 1) ∧
      (if s.decI.toNat + 1 = s.par.maxTimings then t.opE = 0 ∧ t.upc = s.upc + 1
       else t.upc = s.upc ∧ (s.opE.toNat + 1 < 2 ^ 32 → t.opE.toNat = s.opE.toNat + 1)) ∧
      (if s.par.headerTransitions ≤ s.decI.toNat ∧ s.decI.toNat % 2 = 0 then
        t.bitcnt.toNat = min (s.bitcnt.toNat + 1) 63 ∧
        ∀ k : Fin 5, t.frame[k].toNat =
          if s.bitcnt.toNat < 40 ∧ k.val = s.bitcnt.toNat / 8 then
            (2 * s.frame[k].toNat + (if s.par.bitThreshold < s.decCnt.toNat then 1 else 0)) % 256
          else s.frame[k].toNat
       else t.bitcnt = s.bitcnt ∧ t.frame = s.frame)

/-- DHT_CHECK: fewer than `MIN_BITS` (40) bits is TIMEOUT whatever the checksum byte holds; else a checksum byte that is
not the low eight bits of the sum of the other four is CHECKSUM; else OK. -/
def Obligations.DhtCheckJudgesTheFrame : Prop :=
  decode 0x1400 = some .dhtCheck ∧ Params.hardware.minBits = 40 ∧
  ∀ s : State,
    exec .dhtCheck s = .next (
      if s.bitcnt.toNat < s.par.minBits then
        { s with decStatus := .timeout, rdValid := false, errTo := s.errTo + 1, opE := 0, upc := s.upc + 1 }
      else if s.frame[4].toNat ≠
          (s.frame[0].toNat + s.frame[1].toNat + s.frame[2].toNat + s.frame[3].toNat) % 256 then
        { s with decStatus := .checksum, rdValid := false, errCk := s.errCk + 1, opE := 0, upc := s.upc + 1 }
      else { s with decStatus := .ok, rdValid := true, opE := 0, upc := s.upc + 1 })

/-- DHT_CONVERT: a valid frame's byte 0 is the humidity and 18 times byte 2 plus 320 the temperature, which
always fits its register; on a failed check nothing changes. -/
def Obligations.DhtConvertReadsTheFrame : Prop :=
  decode 0x1800 = some .dhtConvert ∧
  ∀ s : State, ∃ x : BitVec 13, x.toNat = 18 * s.frame[2].toNat + 320 ∧
    exec .dhtConvert s = .next { s with
      rdHum := if s.rdValid then s.frame[0] else s.rdHum
      rdTemp10 := if s.rdValid then x else s.rdTemp10
      opE := 0, upc := s.upc + 1 }

/-! ## Sliding window ops (42_sliding_window.md) -/

/-- WIN_FILL w: every slot of the named window takes its source, in one step; the sums stay. -/
def Obligations.WinFillSetsEverySlot : Prop :=
  ∀ s : State,
    exec (.winFill .hum) s =
      .next { s with wHum := List.replicate s.par.nWin s.rdHum, opE := 0, upc := s.upc + 1 } ∧
    exec (.winFill .temp) s =
      .next { s with wTemp := List.replicate s.par.nWin s.rdTemp10, opE := 0, upc := s.upc + 1 } ∧
    exec (.winFill .water) s =
      .next { s with wWater := List.replicate s.par.nWin s.wlMapped, opE := 0, upc := s.upc + 1 }

/-- WIN_SHIFT w, on windows of `N_WIN` slots: each slot of the named window takes the next newer one's value and the
newest takes the source, in one step; the length stays, and so do the sums. -/
def Obligations.WinShiftDropsTheOldest : Prop :=
  ∀ s : State, WindowsOk s →
    (∃ x : List (BitVec 8), x.length = s.par.nWin ∧ (∀ k, k + 1 < s.par.nWin → x[k]? = s.wHum[k + 1]?) ∧
      x[s.par.nWin - 1]? = some s.rdHum ∧
      exec (.winShift .hum) s = .next { s with wHum := x, opE := 0, upc := s.upc + 1 }) ∧
    (∃ x : List (BitVec 13), x.length = s.par.nWin ∧ (∀ k, k + 1 < s.par.nWin → x[k]? = s.wTemp[k + 1]?) ∧
      x[s.par.nWin - 1]? = some s.rdTemp10 ∧
      exec (.winShift .temp) s = .next { s with wTemp := x, opE := 0, upc := s.upc + 1 }) ∧
    (∃ x : List (BitVec 8), x.length = s.par.nWin ∧ (∀ k, k + 1 < s.par.nWin → x[k]? = s.wWater[k + 1]?) ∧
      x[s.par.nWin - 1]? = some s.wlMapped ∧
      exec (.winShift .water) s = .next { s with wWater := x, opE := 0, upc := s.upc + 1 })

/-- WIN_AVG w: the named sum register takes the exact sum of the slots, unsigned for HUM and TEMP, signed for WATER;
with this hardware's 14 slots every sum fits its register (log entry 4 for longer windows). -/
def Obligations.WinAvgStoresTheExactSum : Prop :=
  ∀ s : State,
    (∃ x : BitVec 12,
      ((s.wHum.map BitVec.toNat).sum < 2 ^ 12 → x.toNat = (s.wHum.map BitVec.toNat).sum) ∧
      (s.wHum.length ≤ 14 → x.toNat = (s.wHum.map BitVec.toNat).sum) ∧
      exec (.winAvg .hum) s = .next { s with sumHum := x, opE := 0, upc := s.upc + 1 }) ∧
    (∃ x : BitVec 17,
      ((s.wTemp.map BitVec.toNat).sum < 2 ^ 17 → x.toNat = (s.wTemp.map BitVec.toNat).sum) ∧
      (s.wTemp.length ≤ 14 → x.toNat = (s.wTemp.map BitVec.toNat).sum) ∧
      exec (.winAvg .temp) s = .next { s with sumTemp := x, opE := 0, upc := s.upc + 1 }) ∧
    (∃ x : BitVec 12,
      (-2048 ≤ (s.wWater.map BitVec.toInt).sum → (s.wWater.map BitVec.toInt).sum ≤ 2047 →
        x.toInt = (s.wWater.map BitVec.toInt).sum) ∧
      (s.wWater.length ≤ 14 → x.toInt = (s.wWater.map BitVec.toInt).sum) ∧
      exec (.winAvg .water) s = .next { s with sumWater := x, opE := 0, upc := s.upc + 1 })

/-- After a fill with the source and an average, the sum is `N_WIN` (at most 14) times the source, for every window
and every source value: the average equals the value. R147 (a), which the spec derives. -/
def Obligations.AverageAfterFillIsTheValue : Prop :=
  ∀ (w : Win) (s : State), s.par.nWin ≤ 14 →
    ∃ t u, exec (.winFill w) s = .next t ∧ exec (.winAvg w) t = .next u ∧ u.avgSum w = s.par.nWin * s.src w

/-- After as many shifts as the window has slots (14 on this hardware), with sources `v 0`, `v 1`, …, the window holds
exactly those, oldest first, whatever it held before: no stale value remains. Stated for each window, `σ k` being
the state before shift `k`. R147 (b), which the spec derives. -/
def Obligations.FourteenShiftsReplaceTheWindow : Prop :=
  ∀ (n : Nat) (σ : Nat → State),
    (∀ v : Nat → BitVec 8, (σ 0).wHum.length = n →
      (∀ k < n, exec (.winShift .hum) { σ k with rdHum := v k } = .next (σ (k + 1))) →
      (σ n).wHum = (List.range n).map v) ∧
    (∀ v : Nat → BitVec 13, (σ 0).wTemp.length = n →
      (∀ k < n, exec (.winShift .temp) { σ k with rdTemp10 := v k } = .next (σ (k + 1))) →
      (σ n).wTemp = (List.range n).map v) ∧
    (∀ v : Nat → BitVec 8, (σ 0).wWater.length = n →
      (∀ k < n, exec (.winShift .water) { σ k with wlMapped := v k } = .next (σ (k + 1))) →
      (σ n).wWater = (List.range n).map v)

/-! ## Water level ops (43_water_level.md) -/

/-- WL_SAMPLE takes the converter's value and stores its mapping, floor of the value times `WATER_SCALE` over
`ADC_MAX`, less `WATER_OFFSET`, where it fits the signed register (log entry 4); with this hardware's parameters it
always does: -1 to 99, with -1 for 0 to 10, 9 for 103 to 112 and 10 for 113 to 122. The ranges are R161's, which the
spec derives. -/
def Obligations.WlSampleMapsTheReading : Prop :=
  ∀ s : State, ∃ m : BitVec 8,
    (∀ v : Int, v = ((s.pins.adcVal.toNat * s.par.waterScale / s.par.adcMax : Nat) : Int) - s.par.waterOffset →
      -128 ≤ v → v ≤ 127 → m.toInt = v) ∧
    exec .wlSample s = .next { s with wlRaw := s.pins.adcVal, wlMapped := m, opE := 0, upc := s.upc + 1 } ∧
    (s.par = .hardware →
      m.toInt = ((s.pins.adcVal.toNat * 100 / 1023 : Nat) : Int) - 1 ∧
      -1 ≤ m.toInt ∧ m.toInt ≤ 99 ∧ (m.toInt = -1 ↔ s.pins.adcVal.toNat ≤ 10) ∧
      (m.toInt = 9 ↔ 103 ≤ s.pins.adcVal.toNat ∧ s.pins.adcVal.toNat ≤ 112) ∧
      (m.toInt = 10 ↔ 113 ≤ s.pins.adcVal.toNat ∧ s.pins.adcVal.toNat ≤ 122))

/-- WL_EVAL: out of water exactly when the live sum of the signed slots is below `N_WIN` times `WATER_THRESHOLD`,
which is an average strictly below the threshold; on this hardware a window of one value is out of water exactly when
the value is at most 9. The last clause is R164, which the spec derives. -/
def Obligations.WlEvalComparesTheLiveSum : Prop :=
  ∀ s : State,
    exec .wlEval s = .next { s with
      outOfWater := decide ((s.wWater.map BitVec.toInt).sum < (s.par.nWin : Int) * s.par.waterThreshold)
      opE := 0, upc := s.upc + 1 } ∧
    ∀ m : BitVec 8, s.par = .hardware → s.wWater = List.replicate 14 m →
      ((s.wWater.map BitVec.toInt).sum < (s.par.nWin : Int) * s.par.waterThreshold ↔ m.toInt ≤ 9)

/-! ## Controller ops (44_controller.md) -/

/-- DIAL_READ takes the dial unclamped and leaves the setpoint; SET_LATCH copies it; CTL_REFILL puts the
indicator out exactly on the edge to water; CTL_COMMIT keeps the water state. -/
def Obligations.SetpointRefillAndCommitSteps : Prop :=
  ∀ s : State,
    exec .dialRead s = .next { s with dial10 := s.pins.setIn, opE := 0, upc := s.upc + 1 } ∧
    exec .setLatch s = .next { s with setHum10 := s.dial10, opE := 0, upc := s.upc + 1 } ∧
    exec .ctlRefill s = .next { s with
      led := if s.outOfWater = false ∧ s.lastOutOfWater = true then false else s.led, opE := 0, upc := s.upc + 1 } ∧
    exec .ctlCommit s = .next { s with lastOutOfWater := s.outOfWater, opE := 0, upc := s.upc + 1 }

/-- CTL_FAN: with water the fan follows the comparison of ten times the humidity sum with `N_WIN` times the setpoint
less the tolerance, on integers, whatever it was; out of water it stays. R175, which the spec derives from R173. -/
def Obligations.CtlFanFollowsTheSwitchPoint : Prop :=
  ∀ s : State,
    exec .ctlFan s = .next { s with
      fanOn :=
        if s.outOfWater then s.fanOn
        else decide (10 * (s.sumHum.toNat : Int) < (s.par.nWin : Int) * ((s.setHum10.toNat : Int) - s.par.toleranceX10))
      opE := 0, upc := s.upc + 1 }

/-- CTL_EMPTY: without the edge to out of water nothing happens; with it the first step forces the fan off and
lights the indicator, every step sets the alarm pin by its place in the pattern's period, and the pattern's last step
completes the op. -/
def Obligations.CtlEmptyStep : Prop :=
  ∀ s : State,
    (¬(s.outOfWater = true ∧ s.lastOutOfWater = false) →
      exec .ctlEmpty s = .next { s with opE := 0, upc := s.upc + 1 }) ∧
    (s.outOfWater = true ∧ s.lastOutOfWater = false →
      let p := (s.par.alarmHighMs + s.par.alarmLowMs) * 1000
      ∃ e : BitVec 32, (s.opE.toNat + 1 < 2 ^ 32 → e.toNat = s.opE.toNat + 1) ∧
        exec .ctlEmpty s = .next { s with
          fanOn := if s.opE = 0 then false else s.fanOn
          led := if s.opE = 0 then true else s.led
          alm := decide (s.opE.toNat % p < s.par.alarmHighMs * 1000)
          opE := if s.opE.toNat + 1 = s.par.alarmReps * p then 0 else e
          upc := if s.opE.toNat + 1 = s.par.alarmReps * p then s.upc + 1 else s.upc })

/-! ## Timer and sequencing ops (45_timer_sequencer.md) -/

/-- The four Timer ops. -/
def Obligations.TimerOpSteps : Prop :=
  ∀ s : State, ∃ d : BitVec 32, (s.par.tickPeriodMs < 2 ^ 32 → d.toNat = s.par.tickPeriodMs) ∧
    exec .tmrStart s = .next { s with
      tmrStart := if s.tmrRun then s.tmrStart else s.nowMs, tmrRun := true, opE := 0, upc := s.upc + 1 } ∧
    exec .tmrStop s = .next { s with
      tmrAcc := if s.tmrRun then s.tmrAcc + (s.nowMs - s.tmrStart) else s.tmrAcc, tmrRun := false
      opE := 0, upc := s.upc + 1 } ∧
    exec .tmrReset s = .next { s with tmrAcc := 0, tmrStart := s.nowMs, opE := 0, upc := s.upc + 1 } ∧
    exec .tmrRestart s = .next { s with
      tmrDur := d, tmrAcc := 0, tmrStart := s.nowMs, tmrRun := true, opE := 0, upc := s.upc + 1 }

/-- `Elapsed()` is the same just before and just after TMR_STOP and TMR_START; TMR_RESET makes it 0; after
TMR_RESTART it is 0 and all of 2000 ms remain. An inference from R200 to R204. -/
def Obligations.TimerOpsKeepOrClearElapsed : Prop :=
  ∀ s t : State,
    (exec .tmrStop s = .next t → t.elapsed = s.elapsed) ∧ (exec .tmrStart s = .next t → t.elapsed = s.elapsed) ∧
    (exec .tmrReset s = .next t → t.elapsed = 0) ∧
    (exec .tmrRestart s = .next t → t.elapsed = 0 ∧
      (1 ≤ s.par.tickPeriodMs ∧ s.par.tickPeriodMs < 2 ^ 32 →
        t.isElapsed = false ∧ t.remaining.toNat = s.par.tickPeriodMs))

/-- A timer restarted at any instant has elapsed after `d` milliseconds, also across the wrap of `now_ms`,
exactly when `d` is at least its duration, for `d` below 2^32. R205. -/
def Obligations.ElapsedIsRightAcrossTheWrap : Prop :=
  ∀ (s : State) (d : Nat), d < 2 ^ 32 → s.tmrRun = true → s.tmrAcc = 0 →
    s.nowMs.toNat = (s.tmrStart.toNat + d) % 2 ^ 32 →
    s.elapsed.toNat = d ∧ (s.isElapsed = true ↔ s.tmrDur.toNat ≤ d) ∧ s.remaining.toNat = s.tmrDur.toNat - d

/-- BR_NOT_ELAPSED t: falls through exactly when the elapsed time, computed modulo 2^32, is at least the
duration; else takes its target. -/
def Obligations.BrNotElapsedTestsTheTimer : Prop :=
  ∀ (x : BitVec 8) (s : State),
    let run := if s.tmrRun then (s.nowMs.toNat + 2 ^ 32 - s.tmrStart.toNat) % 2 ^ 32 else 0
    exec (.brNotElapsed x) s = .next { s with
      opE := 0, upc := if s.tmrDur.toNat ≤ (s.tmrAcc.toNat + run) % 2 ^ 32 then s.upc + 1 else x }

/-- BR_DEC_FAIL t: one step, taken exactly when the last check failed; before any check it is taken. -/
def Obligations.BrDecFailTestsTheReading : Prop :=
  (∀ x : BitVec 8, decode (0xA400 + x.setWidth 16) = some (.brDecFail x)) ∧
  (∀ (x : BitVec 8) (s : State),
    exec (.brDecFail x) s = .next { s with opE := 0, upc := if s.rdValid = false then x else s.upc + 1 }) ∧
  (∀ (i : Instr) (s t : State), exec i s = .next t → i ≠ .dhtCheck → t.rdValid = s.rdValid) ∧
  State.reset.rdValid = false

/-- JMP t: one step, to the absolute target; onto its own index it loops; no op of the normative microprogram
does. -/
def Obligations.JmpTakesItsTarget : Prop :=
  (∀ x : BitVec 8, decode (0xA800 + x.setWidth 16) = some (.jmp x)) ∧
  (∀ (x : BitVec 8) (s : State), exec (.jmp x) s = .next { s with upc := x, opE := 0 }) ∧
  (∀ s : State, exec (.jmp s.upc) s = .next { s with opE := 0 }) ∧
  decode 0xA814 = some (.jmp 0x14) ∧
  ∀ k : BitVec 8, romWord State.reset.rom k ≠ 0xA800 + k.setWidth 16

/-- NOP: its word, one step, nothing written but the sequencer's own registers, and no place in the normative
microprogram. -/
def Obligations.NopOnlyCompletes : Prop :=
  decode 0x0000 = some .nop ∧ (∀ s : State, exec .nop s = .next { s with opE := 0, upc := s.upc + 1 }) ∧
  ∀ k : BitVec 8, romWord State.reset.rom k ≠ 0x0000

/-! ## Whole ops -/

/-- The start handshake on the line: low for exactly 18000 steps, then high for exactly 40, then released. The
corner cases of R111 and R113, which the spec derives. With this hardware's parameters. -/
def Obligations.HandshakeWaveform : Prop :=
  ∀ s : State, s.par = .hardware → NoReset s 18041 → AtOp s .dhtStart → s.opE = 0 →
    decode (romWord s.rom (s.upc + 1)) = some .dhtWake → decode (romWord s.rom (s.upc + 2)) = some .dhtRelease →
    ∀ k ≤ 18041, ∃ t, s.run k = .next t ∧
      (1 ≤ k ∧ k ≤ 18000 → t.dhtOe = true ∧ t.dhtO = false) ∧
      (18001 ≤ k ∧ k ≤ 18040 → t.dhtOe = true ∧ t.dhtO = true) ∧
      (k = 18041 → t.dhtOe = false ∧ t.dhtO = true ∧ t.upc = s.upc + 3 ∧ t.opE = 0)

/-- WAIT takes exactly its period and changes nothing but the sequencer's registers and time. With this hardware's
parameters. -/
def Obligations.WaitTakesItsPeriod : Prop :=
  ∀ (w : WaitSel) (s : State),
    let d := match w with
      | .poll => 100000
      | .retry => 2000000
    s.par = .hardware → NoReset s d → AtOp s (.wait w) → s.opE = 0 →
    ∀ k ≤ d, ∃ t, s.run k = .next t ∧
      t = { s with
        upc := if k = d then s.upc + 1 else s.upc, opE := t.opE, tUs := t.tUs, nowMs := t.nowMs
        script := t.script, draws := t.draws } ∧
      t.opE.toNat = (if k = d then 0 else k)

/-- The alarm pattern: exactly 3000000 steps, the pin high in the first half of each 300000-step period, the fan off
and the indicator lit from the end of the first step, nothing else changed. R179, which the spec derives. With this
hardware's parameters. -/
def Obligations.AlarmWaveform : Prop :=
  ∀ s : State, s.par = .hardware → NoReset s 3000000 → AtOp s .ctlEmpty → s.outOfWater = true →
    s.lastOutOfWater = false → s.opE = 0 →
    ∀ e < 3000000, ∃ t, s.run (e + 1) = .next t ∧
      t = { s with
        fanOn := false, led := true, alm := decide (e % 300000 < 150000)
        upc := if e = 2999999 then s.upc + 1 else s.upc, opE := t.opE, tUs := t.tUs, nowMs := t.nowMs
        script := t.script, draws := t.draws } ∧
      t.opE.toNat = (if e = 2999999 then 0 else e + 1)

/-- Whatever the line does, DHT_SAMPLE started on a fresh transition takes at least 85 and at most 21675 steps, and
counts them in `op_e`. R130, which the spec derives. With this hardware's parameters. -/
def Obligations.SamplingTakes85To21675Steps : Prop :=
  ∀ s : State, s.par = .hardware → NoReset s 21675 → AtOp s .dhtSample → s.opE = 0 → s.decI = 0 → s.decCnt = 0 →
    ∃ n t, 85 ≤ n ∧ n ≤ 21675 ∧ s.run n = .next t ∧ t.upc = s.upc + 1 ∧ t.opE = 0 ∧
      ∀ k < n, ∃ u, s.run k = .next u ∧ u.upc = s.upc ∧ u.opE.toNat = k

/-- Whatever the line does, a DHT_SAMPLE started with no bit counted ends with at most 41 bits; without a timeout it
has 41; and fewer than 40 bits only follow a timeout. R122 (a) to (c), which the spec derives. With this hardware's
parameters. -/
def Obligations.ShortFramesFollowATimeout : Prop :=
  ∀ s : State, s.par = .hardware → NoReset s 21675 → AtOp s .dhtSample → s.opE = 0 → s.decI = 0 → s.decCnt = 0 →
    s.bitcnt = 0 → s.decTo = false →
    ∃ n t, n ≤ 21675 ∧ s.run n = .next t ∧ t.upc = s.upc + 1 ∧ t.opE = 0 ∧
      (∀ k < n, ∃ u, s.run k = .next u ∧ u.upc = s.upc ∧ u.opE.toNat = k) ∧
      t.bitcnt.toNat ≤ 41 ∧ (t.decTo = false → t.bitcnt.toNat = 41) ∧ (t.bitcnt.toNat < 40 → t.decTo = true)

/-- A complete pulse train: after DHT_RELEASE, with transitions 0 to 83 of counts `c 0` to `c 83` (each at most 254)
on the line and then no change, DHT_SAMPLE ends with 40 bits and the timeout recorded, and bit `j` of the frame
stands in byte `j` div 8 at bit 7 less `j` mod 8, a 1 exactly when transition `4 + 2 j` counted more than 16. R122
(d) with R119 and R120; the spec derives it. With this hardware's parameters. -/
def Obligations.PulseTrainBecomesTheFrame : Prop :=
  ∀ (s : State) (c : Nat → Nat), s.par = .hardware → (∀ i < 84, c i ≤ 254) → AtOp s .dhtSample → s.opE = 0 →
    s.decI = 0 →
    s.decCnt = 0 → s.decLast = true → s.bitcnt = 0 → s.decTo = false →
    let line := (List.range 84).flatMap (fun i => List.replicate (c i) (i % 2 == 0) ++ [i % 2 == 1]) ++
      List.replicate 255 true
    NoReset s line.length → (∀ k < line.length, (s.pinsAt k).dhtI = line.getD k true) →
    ∃ t, s.run line.length = .next t ∧ t.upc = s.upc + 1 ∧ t.opE = 0 ∧ t.bitcnt.toNat = 40 ∧ t.decTo = true ∧
      ∀ j : Fin 40, (t.frame[j.val / 8]'(Nat.div_lt_of_lt_mul (k := 5) j.isLt)).getLsbD (7 - j.val % 8) =
        decide (16 < c (4 + 2 * j.val))

/-- The four controller ops of a tick, run in order: the controller's state, the indicator and the alarm after them,
by the water state and the one before it. The table of R182, which the spec derives. With this hardware's
parameters. -/
def Obligations.TickControlTable : Prop :=
  ∀ s : State,
    let n := if s.outOfWater && !s.lastOutOfWater then 3000003 else 4
    s.par = .hardware → NoReset s n → AtOp s .ctlFan → s.opE = 0 →
    decode (romWord s.rom (s.upc + 1)) = some .ctlRefill → decode (romWord s.rom (s.upc + 2)) = some .ctlEmpty →
    decode (romWord s.rom (s.upc + 3)) = some .ctlCommit →
    ∃ t, s.run n = .next t ∧
      t = { s with
        fanOn :=
          if s.outOfWater then s.lastOutOfWater && s.fanOn
          else decide (10 * (s.sumHum.toNat : Int) < 14 * ((s.setHum10.toNat : Int) - 20))
        led := if s.outOfWater = s.lastOutOfWater then s.led else s.outOfWater
        alm := if s.outOfWater && !s.lastOutOfWater then false else s.alm
        lastOutOfWater := s.outOfWater, upc := s.upc + 4, opE := 0, tUs := t.tUs, nowMs := t.nowMs
        script := t.script, draws := t.draws }

/-- A pass of the inner loop with no tick due, from LOOP back to LOOP: exactly 100003 steps, in which the dial value
and time change and nothing else does (45_timer_sequencer.md, R217 (a), which the spec derives). With this
hardware's parameters. -/
def Obligations.PollingPassTakes100003Steps : Prop :=
  ∀ s : State, s.par = .hardware → NoReset s 100003 → NormativeRom s → s.faulted = false → s.upc = 0x14 → s.opE = 0 →
    (∀ u, s.run 1 = .next u → u.isElapsed = false) →
    ∃ t, s.run 100003 = .next t ∧
      t = { s with
        dial10 := s.pins.setIn, tUs := t.tUs, nowMs := t.nowMs, script := t.script, draws := t.draws } ∧
      t.stepCount = (s.stepCount + 100003) % (1000 * 2 ^ 32)

/-! ## Invariants that every step keeps (each from every state that meets it, reset steps included) -/

/-- With the normative ROM the sequencer stays inside the microprogram and never faults. R216, which the spec
derives. -/
def Obligations.NormativeProgramNeverFaults : Prop :=
  ∀ s t : State, InProgram s → step s = .next t → InProgram t

/-- With the normative ROM and this hardware's parameters, every counter stays in its range: the step counter below
its op's duration, `dec_i` at most 85 and `bitcnt` at most 41 at every index, and tighter while DHT_SAMPLE runs, so
that no counter ever leaves its width (the free values of log entry 4 are never used). -/
def Obligations.CountersStayInRange : Prop :=
  ∀ s t : State, CountersOk s → step s = .next t → CountersOk t

/-- With the normative ROM, on this hardware, the block drives the data line only inside a start handshake. R130,
which the spec derives. -/
def Obligations.LineIsReleasedOutsideTheHandshake : Prop :=
  ∀ s t : State, LineDriveOk s → step s = .next t → LineDriveOk t

/-- With the normative ROM, on this hardware: at tick boundaries out of water means fan off and the last water state
is the water state; the alarm sounds only inside CTL_EMPTY; during start-up the actuators are off. R182 and R265,
the first of which the spec derives. -/
def Obligations.OutOfWaterMeansFanOffAtTickBoundaries : Prop :=
  ∀ s t : State, ControlOk s → step s = .next t → ControlOk t

/-- With any ROM and any parameters, each window keeps exactly `N_WIN` slots and temperatures stay in their range;
with this hardware's parameters the mapped water level, its window and the sums stay in theirs. -/
def Obligations.ReadingsWindowsAndSumsStayInRange : Prop :=
  ∀ s t : State, RangesOk s → step s = .next t → RangesOk t

/-- With any ROM, the fault state has the fan and the alarm off and the line released. -/
def Obligations.FaultStateIsFailSafe : Prop := ∀ s t : State, FaultSafe s → step s = .next t → FaultSafe t

/-- The state after reset meets every invariant above, its ROM is in canonical form, and its parameters are this
hardware's, which are legal. -/
def Obligations.ResetMeetsTheInvariants : Prop :=
  InProgram State.reset ∧ CountersOk State.reset ∧ LineDriveOk State.reset ∧ ControlOk State.reset ∧
  RangesOk State.reset ∧ FaultSafe State.reset ∧ Memory.wf State.reset.rom ∧ State.reset.par = .hardware ∧
  State.reset.par.Legal

/-! ## What the outside sees (10_state.md sections 2 and 10) -/

/-- The status words below 0x13, each field at its place and every other bit 0, with the codes that `dec_status` has in
`CTRL` (R35, R91); at reset `CTRL` reads 0x400. -/
def Obligations.StatusWordsShowTheRegisters : Prop :=
  State.reset.statusRead 0x01 = 0x00000400 ∧
  (DecStatus.none.code.toNat = 0 ∧ DecStatus.ok.code.toNat = 1 ∧ DecStatus.timeout.code.toNat = 2 ∧
    DecStatus.checksum.code.toNat = 3) ∧
  ∀ s : State,
    (s.statusRead 0x00 = 0x44485431 ∧
      (s.statusRead 0x01).toNat =
        s.fanOn.toNat + 2 * s.outOfWater.toNat + 4 * s.lastOutOfWater.toNat + 8 * s.led.toNat + 16 * s.alm.toNat +
        32 * s.rdValid.toNat + 64 * s.decStatus.code.toNat + 256 * s.tmrRun.toNat + 512 * s.dhtOe.toNat +
        1024 * s.dhtO.toNat + 2048 * s.faulted.toNat) ∧
    ((s.statusRead 0x02).toNat = s.setHum10.toNat ∧ (s.statusRead 0x03).toNat = s.dial10.toNat ∧
      (s.statusRead 0x04).toNat = s.sumHum.toNat ∧ (s.statusRead 0x05).toNat = s.sumTemp.toNat ∧
      (s.statusRead 0x06).toInt = s.sumWater.toInt) ∧
    ((s.statusRead 0x07).toNat = s.rdHum.toNat + 65536 * s.rdTemp10.toNat ∧
      (s.statusRead 0x08).toNat =
        s.frame[0].toNat + 256 * s.frame[1].toNat + 65536 * s.frame[2].toNat + 16777216 * s.frame[3].toNat ∧
      (s.statusRead 0x09).toNat = s.frame[4].toNat + 256 * s.bitcnt.toNat + 65536 * s.decTo.toNat) ∧
    (s.statusRead 0x0A = s.errTo ∧ s.statusRead 0x0B = s.errCk ∧
      (s.statusRead 0x0C).toNat = s.wlRaw.toNat + 65536 * s.wlMapped.toNat ∧ s.statusRead 0x0D = s.tmrDur ∧
      s.statusRead 0x0E = s.tmrStart ∧ s.statusRead 0x0F = s.tmrAcc ∧ s.statusRead 0x10 = s.nowMs) ∧
    ((s.statusRead 0x11).toNat = s.upc.toNat + 256 * (s.opE.toNat % 16777216) ∧
      (s.statusRead 0x12).toNat = s.decI.toNat + 256 * s.decCnt.toNat + 65536 * s.decLast.toNat)

/-- The status view's window slots, and 0 at every other index from 0x13 on. That the six indices 0x2E, 0x2F, 0x3E, 0x3F,
0x4E and 0x4F read 0 also with an `N_WIN` above 14 is the model's choice (log entry 17). -/
def Obligations.StatusViewShowsTheWindows : Prop :=
  ∀ s : State,
    (∀ k < 14,
      (∀ v, s.wHum[k]? = some v → (s.statusRead (BitVec.ofNat 8 (0x20 + k))).toNat = v.toNat) ∧
      (∀ v, s.wTemp[k]? = some v → (s.statusRead (BitVec.ofNat 8 (0x30 + k))).toNat = v.toNat) ∧
      (∀ v, s.wWater[k]? = some v → (s.statusRead (BitVec.ofNat 8 (0x40 + k))).toInt = v.toInt)) ∧
    ∀ x : BitVec 8, 0x13 ≤ x.toNat →
      (∀ k < 14, x.toNat ≠ 0x20 + k ∧ x.toNat ≠ 0x30 + k ∧ x.toNat ≠ 0x40 + k) → s.statusRead x = 0

/-- The output pins show their registers and `stat_data` the status word, as they stand at the start of the step; in
the first reset step after a running step that is the model's reading (log entry 10). `adc_rd` is 1 exactly in a step
that runs WL_SAMPLE; that it is 0 in a reset or fault step and 1 in step 0 is the model's reading (log entry 11). The
data line carries `dht_o` while the block drives it, and otherwise the level on `dht_i`. At reset the line is released, with `dht_o` = 1, and every
actuator is off. -/
def Obligations.OutputPinsShowTheRegisters : Prop :=
  (∀ s : State,
    s.pinsOut.dhtOe = s.dhtOe ∧ s.pinsOut.dhtO = s.dhtO ∧ s.pinsOut.fanOn = s.fanOn ∧
    s.pinsOut.ledLowWater = s.led ∧ s.pinsOut.alarm = s.alm ∧ s.pinsOut.faulted = s.faulted ∧
    (s.pinsOut.adcRd = true ↔ s.pins.rst = false ∧ AtOp s .wlSample) ∧
    s.pinsOut.statData = s.statusRead s.pins.statIdx ∧
    s.dataLine = if s.dhtOe then s.dhtO else s.pins.dhtI) ∧
  State.reset.pinsOut.dhtOe = false ∧ State.reset.pinsOut.dhtO = true ∧ State.reset.pinsOut.fanOn = false ∧
  State.reset.pinsOut.ledLowWater = false ∧ State.reset.pinsOut.alarm = false ∧ State.reset.pinsOut.faulted = false
end

