-- ==== Sys2Proof/Laws/Memory.lean ====
section
/-! SUPPORT. The ROM as byte cells: a write keeps the canonical form, a read sees the last write and nothing
else, and an op word put at an index is the one read there. -/

namespace Sys2Proof.Machine

theorem Memory.wf_nil : Memory.wf [] := ⟨List.Pairwise.nil, fun _ h => absurd h List.not_mem_nil⟩

theorem Memory.wf_tail {c : Host.Cell} {m : Memory} (h : Memory.wf (c :: m)) : Memory.wf m :=
  ⟨(List.pairwise_cons.mp h.1).2, fun d hd => h.2 d (List.mem_cons_of_mem _ hd)⟩

/-- Every cell of a changed ROM is the changed byte's or was there before. -/
theorem Memory.mem_write {m : Memory} {a : Nat} {b : Byte} {d : Host.Cell} (h : d ∈ m.write a b) :
    (d = (a, b) ∧ b ≠ romDefault a) ∨ d ∈ m := by
  induction m with
  | nil => simp only [Memory.write] at h; split at h <;> simp_all
  | cons c m ih =>
    simp only [Memory.write] at h
    split at h
    · split at h <;> simp_all
    · split at h
      · split at h
        · exact .inr (List.mem_cons_of_mem _ h)
        · rcases List.mem_cons.mp h with rfl | h
          · exact .inl ⟨rfl, by assumption⟩
          · exact .inr (List.mem_cons_of_mem _ h)
      · rcases List.mem_cons.mp h with rfl | h
        · exact .inr List.mem_cons_self
        · exact (ih h).imp id (List.mem_cons_of_mem _)

/-- A write at an address of the ROM keeps the canonical form. -/
theorem Memory.write_wf {m : Memory} {a : Nat} (b : Byte) (ha : a < romBytes) (h : m.wf) : (m.write a b).wf := by
  refine ⟨?_, fun d hd => ?_⟩
  · induction m with
    | nil => simp only [Memory.write]; split <;> simp
    | cons c m ih =>
      have hc := List.pairwise_cons.mp h.1
      simp only [Memory.write]
      split
      · split
        · exact h.1
        · refine List.pairwise_cons.mpr ⟨fun d hd => ?_, h.1⟩
          rcases List.mem_cons.mp hd with rfl | hd
          · assumption
          · exact lt_trans (by assumption) (hc.1 d hd)
      · split
        · split
          · exact hc.2
          · rename_i e _
            refine List.pairwise_cons.mpr ⟨fun d hd => ?_, hc.2⟩
            simpa [e] using hc.1 d hd
        · refine List.pairwise_cons.mpr ⟨fun d hd => ?_, ih (Memory.wf_tail h)⟩
          rcases Memory.mem_write hd with ⟨rfl, _⟩ | hd
          · show c.1 < a
            omega
          · exact hc.1 d hd
  · rcases Memory.mem_write hd with ⟨rfl, hb⟩ | hd
    · exact ⟨ha, hb⟩
    · exact h.2 d hd

theorem Memory.read_of_forall_ne {m : Memory} {a : Nat} (h : ∀ c ∈ m, c.1 ≠ a) : m.read a = romDefault a := by
  induction m with
  | nil => rfl
  | cons c m ih =>
    rw [Memory.read, if_neg (h c List.mem_cons_self)]
    exact ih fun d hd => h d (List.mem_cons_of_mem _ hd)

/-- What a read sees after a write: the byte written at its address, what was there elsewhere. -/
theorem Memory.read_write {m : Memory} (h : m.wf) (a x : Nat) (b : Byte) :
    (m.write a b).read x = if x = a then b else m.read x := by
  induction m with
  | nil => simp only [Memory.write, Memory.read]; split <;> simp_all [Memory.read, eq_comm]
  | cons c m ih =>
    have hc := List.pairwise_cons.mp h.1
    have later {y : Nat} (hy : y ≤ c.1) : Memory.read m y = romDefault y :=
      Memory.read_of_forall_ne fun d hd => by have := hc.1 d hd; omega
    simp only [Memory.write]
    split
    · rename_i hlt
      split
      · split
        · rename_i hx; subst hx
          rw [Memory.read, if_neg (by omega), later (by omega)]; simp_all
        · rfl
      · rw [Memory.read]; simp only [eq_comm (a := a)]
    · split
      · rename_i e
        split
        · split
          · rename_i hx; subst hx; rw [later (by omega)]; simp_all
          · rename_i hx; rw [Memory.read, if_neg (by omega)]
        · rw [Memory.read, Memory.read, ← e]; simp only [eq_comm (a := a)]
          split <;> rfl
      · rw [Memory.read, Memory.read, ih (Memory.wf_tail h)]
        split <;> split <;> first | rfl | omega

/-- Putting an op word keeps the canonical form. -/
theorem romPut_wf {m : Memory} (h : m.wf) (k : BitVec 8) (w : OpWord) : (romPut m k w).wf :=
  Memory.write_wf _ (by have := k.isLt; simp only [romBytes]; omega)
    (Memory.write_wf _ (by have := k.isLt; simp only [romBytes]; omega) h)

/-- Fitting a list of op words keeps the canonical form. -/
theorem romPutFrom_wf {m : Memory} (h : m.wf) (ws : List OpWord) (k : Nat) : (romPutFrom m k ws).wf := by
  induction ws generalizing m k with
  | nil => exact h
  | cons w ws ih => exact ih (romPut_wf h _ w) _

theorem OpWord.hi_append_lo (w : OpWord) : (w.hi ++ w.lo : BitVec 16) = w := by
  apply BitVec.eq_of_getLsbD_eq
  intro i hi
  simp only [OpWord.hi, OpWord.lo, BitVec.getLsbD_append, BitVec.getLsbD_extractLsb']
  by_cases h : i < 8
  · simp [h]
  · rw [if_neg h, show 8 + (i - 8) = i by omega]
    simp only [decide_eq_true (show i - 8 < 8 by omega), Bool.true_and]

/-- The op word put at an index is the one read there, and every other index reads as before. -/
theorem romWord_romPut {m : Memory} (h : m.wf) (k j : BitVec 8) (w : OpWord) :
    romWord (romPut m k w) j = if j = k then w else romWord m j := by
  have h1 : (m.write (2 * k.toNat) w.lo).wf :=
    Memory.write_wf _ (by have := k.isLt; simp only [romBytes]; omega) h
  unfold romWord romPut
  rw [Memory.read_write h1, Memory.read_write h1, Memory.read_write h, Memory.read_write h]
  by_cases e : j = k
  · subst e
    simp [OpWord.hi_append_lo]
  · have e' : j.toNat ≠ k.toNat := fun h => e (BitVec.eq_of_toNat_eq h)
    rw [if_neg (by omega), if_neg (by omega), if_neg (by omega), if_neg (by omega), if_neg e]

/-- With the normative ROM fitted, an index reads as 45_timer_sequencer.md R215 and R216 print it. -/
theorem romWord_normative (k : BitVec 8) : romWord [] k = normativeWord k.toNat := by
  unfold romWord Memory.read romDefault
  rw [if_neg (by omega), if_pos (by omega)]
  rw [show (2 * k.toNat + 1) / 2 = k.toNat by omega, show 2 * k.toNat / 2 = k.toNat by omega]
  exact OpWord.hi_append_lo _

end Sys2Proof.Machine
end

