-- ==== Sys2Proof/Laws/State.lean ====
section
/-! SUPPORT. One lemma for each field and each named update of State, true by `rfl`, so that no later proof
unfolds an update. -/

namespace Sys2Proof.Machine

/-! ## `State.complete` -/

@[simp] theorem State.complete_dhtOe (s : State) : (s.complete).dhtOe = s.dhtOe := rfl
@[simp] theorem State.complete_dhtO (s : State) : (s.complete).dhtO = s.dhtO := rfl
@[simp] theorem State.complete_rdHum (s : State) : (s.complete).rdHum = s.rdHum := rfl
@[simp] theorem State.complete_rdTemp10 (s : State) : (s.complete).rdTemp10 = s.rdTemp10 := rfl
@[simp] theorem State.complete_rdValid (s : State) : (s.complete).rdValid = s.rdValid := rfl
@[simp] theorem State.complete_frame (s : State) : (s.complete).frame = s.frame := rfl
@[simp] theorem State.complete_bitcnt (s : State) : (s.complete).bitcnt = s.bitcnt := rfl
@[simp] theorem State.complete_decTo (s : State) : (s.complete).decTo = s.decTo := rfl
@[simp] theorem State.complete_decI (s : State) : (s.complete).decI = s.decI := rfl
@[simp] theorem State.complete_decCnt (s : State) : (s.complete).decCnt = s.decCnt := rfl
@[simp] theorem State.complete_decLast (s : State) : (s.complete).decLast = s.decLast := rfl
@[simp] theorem State.complete_decStatus (s : State) : (s.complete).decStatus = s.decStatus := rfl
@[simp] theorem State.complete_errTo (s : State) : (s.complete).errTo = s.errTo := rfl
@[simp] theorem State.complete_errCk (s : State) : (s.complete).errCk = s.errCk := rfl
@[simp] theorem State.complete_fanOn (s : State) : (s.complete).fanOn = s.fanOn := rfl
@[simp] theorem State.complete_outOfWater (s : State) : (s.complete).outOfWater = s.outOfWater := rfl
@[simp] theorem State.complete_lastOutOfWater (s : State) : (s.complete).lastOutOfWater = s.lastOutOfWater := rfl
@[simp] theorem State.complete_setHum10 (s : State) : (s.complete).setHum10 = s.setHum10 := rfl
@[simp] theorem State.complete_dial10 (s : State) : (s.complete).dial10 = s.dial10 := rfl
@[simp] theorem State.complete_led (s : State) : (s.complete).led = s.led := rfl
@[simp] theorem State.complete_alm (s : State) : (s.complete).alm = s.alm := rfl
@[simp] theorem State.complete_wlRaw (s : State) : (s.complete).wlRaw = s.wlRaw := rfl
@[simp] theorem State.complete_wlMapped (s : State) : (s.complete).wlMapped = s.wlMapped := rfl
@[simp] theorem State.complete_wHum (s : State) : (s.complete).wHum = s.wHum := rfl
@[simp] theorem State.complete_wTemp (s : State) : (s.complete).wTemp = s.wTemp := rfl
@[simp] theorem State.complete_wWater (s : State) : (s.complete).wWater = s.wWater := rfl
@[simp] theorem State.complete_sumHum (s : State) : (s.complete).sumHum = s.sumHum := rfl
@[simp] theorem State.complete_sumTemp (s : State) : (s.complete).sumTemp = s.sumTemp := rfl
@[simp] theorem State.complete_sumWater (s : State) : (s.complete).sumWater = s.sumWater := rfl
@[simp] theorem State.complete_tmrDur (s : State) : (s.complete).tmrDur = s.tmrDur := rfl
@[simp] theorem State.complete_tmrStart (s : State) : (s.complete).tmrStart = s.tmrStart := rfl
@[simp] theorem State.complete_tmrAcc (s : State) : (s.complete).tmrAcc = s.tmrAcc := rfl
@[simp] theorem State.complete_tmrRun (s : State) : (s.complete).tmrRun = s.tmrRun := rfl
@[simp] theorem State.complete_tUs (s : State) : (s.complete).tUs = s.tUs := rfl
@[simp] theorem State.complete_nowMs (s : State) : (s.complete).nowMs = s.nowMs := rfl
@[simp] theorem State.complete_upc (s : State) : (s.complete).upc = s.upc + 1 := rfl
@[simp] theorem State.complete_opE (s : State) : (s.complete).opE = 0 := rfl
@[simp] theorem State.complete_faulted (s : State) : (s.complete).faulted = s.faulted := rfl
@[simp] theorem State.complete_par (s : State) : (s.complete).par = s.par := rfl
@[simp] theorem State.complete_rom (s : State) : (s.complete).rom = s.rom := rfl
@[simp] theorem State.complete_script (s : State) : (s.complete).script = s.script := rfl
@[simp] theorem State.complete_draws (s : State) : (s.complete).draws = s.draws := rfl

/-! ## `State.branch` -/

@[simp] theorem State.branch_dhtOe (s : State) (t : BitVec 8) : (s.branch t).dhtOe = s.dhtOe := rfl
@[simp] theorem State.branch_dhtO (s : State) (t : BitVec 8) : (s.branch t).dhtO = s.dhtO := rfl
@[simp] theorem State.branch_rdHum (s : State) (t : BitVec 8) : (s.branch t).rdHum = s.rdHum := rfl
@[simp] theorem State.branch_rdTemp10 (s : State) (t : BitVec 8) : (s.branch t).rdTemp10 = s.rdTemp10 := rfl
@[simp] theorem State.branch_rdValid (s : State) (t : BitVec 8) : (s.branch t).rdValid = s.rdValid := rfl
@[simp] theorem State.branch_frame (s : State) (t : BitVec 8) : (s.branch t).frame = s.frame := rfl
@[simp] theorem State.branch_bitcnt (s : State) (t : BitVec 8) : (s.branch t).bitcnt = s.bitcnt := rfl
@[simp] theorem State.branch_decTo (s : State) (t : BitVec 8) : (s.branch t).decTo = s.decTo := rfl
@[simp] theorem State.branch_decI (s : State) (t : BitVec 8) : (s.branch t).decI = s.decI := rfl
@[simp] theorem State.branch_decCnt (s : State) (t : BitVec 8) : (s.branch t).decCnt = s.decCnt := rfl
@[simp] theorem State.branch_decLast (s : State) (t : BitVec 8) : (s.branch t).decLast = s.decLast := rfl
@[simp] theorem State.branch_decStatus (s : State) (t : BitVec 8) : (s.branch t).decStatus = s.decStatus := rfl
@[simp] theorem State.branch_errTo (s : State) (t : BitVec 8) : (s.branch t).errTo = s.errTo := rfl
@[simp] theorem State.branch_errCk (s : State) (t : BitVec 8) : (s.branch t).errCk = s.errCk := rfl
@[simp] theorem State.branch_fanOn (s : State) (t : BitVec 8) : (s.branch t).fanOn = s.fanOn := rfl
@[simp] theorem State.branch_outOfWater (s : State) (t : BitVec 8) : (s.branch t).outOfWater = s.outOfWater := rfl
@[simp] theorem State.branch_lastOutOfWater (s : State) (t : BitVec 8) : (s.branch t).lastOutOfWater = s.lastOutOfWater := rfl
@[simp] theorem State.branch_setHum10 (s : State) (t : BitVec 8) : (s.branch t).setHum10 = s.setHum10 := rfl
@[simp] theorem State.branch_dial10 (s : State) (t : BitVec 8) : (s.branch t).dial10 = s.dial10 := rfl
@[simp] theorem State.branch_led (s : State) (t : BitVec 8) : (s.branch t).led = s.led := rfl
@[simp] theorem State.branch_alm (s : State) (t : BitVec 8) : (s.branch t).alm = s.alm := rfl
@[simp] theorem State.branch_wlRaw (s : State) (t : BitVec 8) : (s.branch t).wlRaw = s.wlRaw := rfl
@[simp] theorem State.branch_wlMapped (s : State) (t : BitVec 8) : (s.branch t).wlMapped = s.wlMapped := rfl
@[simp] theorem State.branch_wHum (s : State) (t : BitVec 8) : (s.branch t).wHum = s.wHum := rfl
@[simp] theorem State.branch_wTemp (s : State) (t : BitVec 8) : (s.branch t).wTemp = s.wTemp := rfl
@[simp] theorem State.branch_wWater (s : State) (t : BitVec 8) : (s.branch t).wWater = s.wWater := rfl
@[simp] theorem State.branch_sumHum (s : State) (t : BitVec 8) : (s.branch t).sumHum = s.sumHum := rfl
@[simp] theorem State.branch_sumTemp (s : State) (t : BitVec 8) : (s.branch t).sumTemp = s.sumTemp := rfl
@[simp] theorem State.branch_sumWater (s : State) (t : BitVec 8) : (s.branch t).sumWater = s.sumWater := rfl
@[simp] theorem State.branch_tmrDur (s : State) (t : BitVec 8) : (s.branch t).tmrDur = s.tmrDur := rfl
@[simp] theorem State.branch_tmrStart (s : State) (t : BitVec 8) : (s.branch t).tmrStart = s.tmrStart := rfl
@[simp] theorem State.branch_tmrAcc (s : State) (t : BitVec 8) : (s.branch t).tmrAcc = s.tmrAcc := rfl
@[simp] theorem State.branch_tmrRun (s : State) (t : BitVec 8) : (s.branch t).tmrRun = s.tmrRun := rfl
@[simp] theorem State.branch_tUs (s : State) (t : BitVec 8) : (s.branch t).tUs = s.tUs := rfl
@[simp] theorem State.branch_nowMs (s : State) (t : BitVec 8) : (s.branch t).nowMs = s.nowMs := rfl
@[simp] theorem State.branch_upc (s : State) (t : BitVec 8) : (s.branch t).upc = t := rfl
@[simp] theorem State.branch_opE (s : State) (t : BitVec 8) : (s.branch t).opE = 0 := rfl
@[simp] theorem State.branch_faulted (s : State) (t : BitVec 8) : (s.branch t).faulted = s.faulted := rfl
@[simp] theorem State.branch_par (s : State) (t : BitVec 8) : (s.branch t).par = s.par := rfl
@[simp] theorem State.branch_rom (s : State) (t : BitVec 8) : (s.branch t).rom = s.rom := rfl
@[simp] theorem State.branch_script (s : State) (t : BitVec 8) : (s.branch t).script = s.script := rfl
@[simp] theorem State.branch_draws (s : State) (t : BitVec 8) : (s.branch t).draws = s.draws := rfl

/-! ## `State.hold` -/

@[simp] theorem State.hold_dhtOe (s : State) : (s.hold).dhtOe = s.dhtOe := rfl
@[simp] theorem State.hold_dhtO (s : State) : (s.hold).dhtO = s.dhtO := rfl
@[simp] theorem State.hold_rdHum (s : State) : (s.hold).rdHum = s.rdHum := rfl
@[simp] theorem State.hold_rdTemp10 (s : State) : (s.hold).rdTemp10 = s.rdTemp10 := rfl
@[simp] theorem State.hold_rdValid (s : State) : (s.hold).rdValid = s.rdValid := rfl
@[simp] theorem State.hold_frame (s : State) : (s.hold).frame = s.frame := rfl
@[simp] theorem State.hold_bitcnt (s : State) : (s.hold).bitcnt = s.bitcnt := rfl
@[simp] theorem State.hold_decTo (s : State) : (s.hold).decTo = s.decTo := rfl
@[simp] theorem State.hold_decI (s : State) : (s.hold).decI = s.decI := rfl
@[simp] theorem State.hold_decCnt (s : State) : (s.hold).decCnt = s.decCnt := rfl
@[simp] theorem State.hold_decLast (s : State) : (s.hold).decLast = s.decLast := rfl
@[simp] theorem State.hold_decStatus (s : State) : (s.hold).decStatus = s.decStatus := rfl
@[simp] theorem State.hold_errTo (s : State) : (s.hold).errTo = s.errTo := rfl
@[simp] theorem State.hold_errCk (s : State) : (s.hold).errCk = s.errCk := rfl
@[simp] theorem State.hold_fanOn (s : State) : (s.hold).fanOn = s.fanOn := rfl
@[simp] theorem State.hold_outOfWater (s : State) : (s.hold).outOfWater = s.outOfWater := rfl
@[simp] theorem State.hold_lastOutOfWater (s : State) : (s.hold).lastOutOfWater = s.lastOutOfWater := rfl
@[simp] theorem State.hold_setHum10 (s : State) : (s.hold).setHum10 = s.setHum10 := rfl
@[simp] theorem State.hold_dial10 (s : State) : (s.hold).dial10 = s.dial10 := rfl
@[simp] theorem State.hold_led (s : State) : (s.hold).led = s.led := rfl
@[simp] theorem State.hold_alm (s : State) : (s.hold).alm = s.alm := rfl
@[simp] theorem State.hold_wlRaw (s : State) : (s.hold).wlRaw = s.wlRaw := rfl
@[simp] theorem State.hold_wlMapped (s : State) : (s.hold).wlMapped = s.wlMapped := rfl
@[simp] theorem State.hold_wHum (s : State) : (s.hold).wHum = s.wHum := rfl
@[simp] theorem State.hold_wTemp (s : State) : (s.hold).wTemp = s.wTemp := rfl
@[simp] theorem State.hold_wWater (s : State) : (s.hold).wWater = s.wWater := rfl
@[simp] theorem State.hold_sumHum (s : State) : (s.hold).sumHum = s.sumHum := rfl
@[simp] theorem State.hold_sumTemp (s : State) : (s.hold).sumTemp = s.sumTemp := rfl
@[simp] theorem State.hold_sumWater (s : State) : (s.hold).sumWater = s.sumWater := rfl
@[simp] theorem State.hold_tmrDur (s : State) : (s.hold).tmrDur = s.tmrDur := rfl
@[simp] theorem State.hold_tmrStart (s : State) : (s.hold).tmrStart = s.tmrStart := rfl
@[simp] theorem State.hold_tmrAcc (s : State) : (s.hold).tmrAcc = s.tmrAcc := rfl
@[simp] theorem State.hold_tmrRun (s : State) : (s.hold).tmrRun = s.tmrRun := rfl
@[simp] theorem State.hold_tUs (s : State) : (s.hold).tUs = s.tUs := rfl
@[simp] theorem State.hold_nowMs (s : State) : (s.hold).nowMs = s.nowMs := rfl
@[simp] theorem State.hold_upc (s : State) : (s.hold).upc = s.upc := rfl
@[simp] theorem State.hold_opE (s : State) : (s.hold).opE = orFree 32 (Config.freeOpE s.draws) (s.opE.toNat + 1) := rfl
@[simp] theorem State.hold_faulted (s : State) : (s.hold).faulted = s.faulted := rfl
@[simp] theorem State.hold_par (s : State) : (s.hold).par = s.par := rfl
@[simp] theorem State.hold_rom (s : State) : (s.hold).rom = s.rom := rfl
@[simp] theorem State.hold_script (s : State) : (s.hold).script = s.script := rfl
@[simp] theorem State.hold_draws (s : State) : (s.hold).draws = s.draws := rfl

/-! ## `State.nextDraw` -/

@[simp] theorem State.nextDraw_dhtOe (s : State) : (s.nextDraw).dhtOe = s.dhtOe := rfl
@[simp] theorem State.nextDraw_dhtO (s : State) : (s.nextDraw).dhtO = s.dhtO := rfl
@[simp] theorem State.nextDraw_rdHum (s : State) : (s.nextDraw).rdHum = s.rdHum := rfl
@[simp] theorem State.nextDraw_rdTemp10 (s : State) : (s.nextDraw).rdTemp10 = s.rdTemp10 := rfl
@[simp] theorem State.nextDraw_rdValid (s : State) : (s.nextDraw).rdValid = s.rdValid := rfl
@[simp] theorem State.nextDraw_frame (s : State) : (s.nextDraw).frame = s.frame := rfl
@[simp] theorem State.nextDraw_bitcnt (s : State) : (s.nextDraw).bitcnt = s.bitcnt := rfl
@[simp] theorem State.nextDraw_decTo (s : State) : (s.nextDraw).decTo = s.decTo := rfl
@[simp] theorem State.nextDraw_decI (s : State) : (s.nextDraw).decI = s.decI := rfl
@[simp] theorem State.nextDraw_decCnt (s : State) : (s.nextDraw).decCnt = s.decCnt := rfl
@[simp] theorem State.nextDraw_decLast (s : State) : (s.nextDraw).decLast = s.decLast := rfl
@[simp] theorem State.nextDraw_decStatus (s : State) : (s.nextDraw).decStatus = s.decStatus := rfl
@[simp] theorem State.nextDraw_errTo (s : State) : (s.nextDraw).errTo = s.errTo := rfl
@[simp] theorem State.nextDraw_errCk (s : State) : (s.nextDraw).errCk = s.errCk := rfl
@[simp] theorem State.nextDraw_fanOn (s : State) : (s.nextDraw).fanOn = s.fanOn := rfl
@[simp] theorem State.nextDraw_outOfWater (s : State) : (s.nextDraw).outOfWater = s.outOfWater := rfl
@[simp] theorem State.nextDraw_lastOutOfWater (s : State) : (s.nextDraw).lastOutOfWater = s.lastOutOfWater := rfl
@[simp] theorem State.nextDraw_setHum10 (s : State) : (s.nextDraw).setHum10 = s.setHum10 := rfl
@[simp] theorem State.nextDraw_dial10 (s : State) : (s.nextDraw).dial10 = s.dial10 := rfl
@[simp] theorem State.nextDraw_led (s : State) : (s.nextDraw).led = s.led := rfl
@[simp] theorem State.nextDraw_alm (s : State) : (s.nextDraw).alm = s.alm := rfl
@[simp] theorem State.nextDraw_wlRaw (s : State) : (s.nextDraw).wlRaw = s.wlRaw := rfl
@[simp] theorem State.nextDraw_wlMapped (s : State) : (s.nextDraw).wlMapped = s.wlMapped := rfl
@[simp] theorem State.nextDraw_wHum (s : State) : (s.nextDraw).wHum = s.wHum := rfl
@[simp] theorem State.nextDraw_wTemp (s : State) : (s.nextDraw).wTemp = s.wTemp := rfl
@[simp] theorem State.nextDraw_wWater (s : State) : (s.nextDraw).wWater = s.wWater := rfl
@[simp] theorem State.nextDraw_sumHum (s : State) : (s.nextDraw).sumHum = s.sumHum := rfl
@[simp] theorem State.nextDraw_sumTemp (s : State) : (s.nextDraw).sumTemp = s.sumTemp := rfl
@[simp] theorem State.nextDraw_sumWater (s : State) : (s.nextDraw).sumWater = s.sumWater := rfl
@[simp] theorem State.nextDraw_tmrDur (s : State) : (s.nextDraw).tmrDur = s.tmrDur := rfl
@[simp] theorem State.nextDraw_tmrStart (s : State) : (s.nextDraw).tmrStart = s.tmrStart := rfl
@[simp] theorem State.nextDraw_tmrAcc (s : State) : (s.nextDraw).tmrAcc = s.tmrAcc := rfl
@[simp] theorem State.nextDraw_tmrRun (s : State) : (s.nextDraw).tmrRun = s.tmrRun := rfl
@[simp] theorem State.nextDraw_tUs (s : State) : (s.nextDraw).tUs = s.tUs := rfl
@[simp] theorem State.nextDraw_nowMs (s : State) : (s.nextDraw).nowMs = s.nowMs := rfl
@[simp] theorem State.nextDraw_upc (s : State) : (s.nextDraw).upc = s.upc := rfl
@[simp] theorem State.nextDraw_opE (s : State) : (s.nextDraw).opE = s.opE := rfl
@[simp] theorem State.nextDraw_faulted (s : State) : (s.nextDraw).faulted = s.faulted := rfl
@[simp] theorem State.nextDraw_par (s : State) : (s.nextDraw).par = s.par := rfl
@[simp] theorem State.nextDraw_rom (s : State) : (s.nextDraw).rom = s.rom := rfl
@[simp] theorem State.nextDraw_script (s : State) : (s.nextDraw).script = s.script.tail := rfl
@[simp] theorem State.nextDraw_draws (s : State) : (s.nextDraw).draws = s.draws + 1 := rfl

/-! ## `State.advanceTime` -/

@[simp] theorem State.advanceTime_dhtOe (s : State) : (s.advanceTime).dhtOe = s.dhtOe := rfl
@[simp] theorem State.advanceTime_dhtO (s : State) : (s.advanceTime).dhtO = s.dhtO := rfl
@[simp] theorem State.advanceTime_rdHum (s : State) : (s.advanceTime).rdHum = s.rdHum := rfl
@[simp] theorem State.advanceTime_rdTemp10 (s : State) : (s.advanceTime).rdTemp10 = s.rdTemp10 := rfl
@[simp] theorem State.advanceTime_rdValid (s : State) : (s.advanceTime).rdValid = s.rdValid := rfl
@[simp] theorem State.advanceTime_frame (s : State) : (s.advanceTime).frame = s.frame := rfl
@[simp] theorem State.advanceTime_bitcnt (s : State) : (s.advanceTime).bitcnt = s.bitcnt := rfl
@[simp] theorem State.advanceTime_decTo (s : State) : (s.advanceTime).decTo = s.decTo := rfl
@[simp] theorem State.advanceTime_decI (s : State) : (s.advanceTime).decI = s.decI := rfl
@[simp] theorem State.advanceTime_decCnt (s : State) : (s.advanceTime).decCnt = s.decCnt := rfl
@[simp] theorem State.advanceTime_decLast (s : State) : (s.advanceTime).decLast = s.decLast := rfl
@[simp] theorem State.advanceTime_decStatus (s : State) : (s.advanceTime).decStatus = s.decStatus := rfl
@[simp] theorem State.advanceTime_errTo (s : State) : (s.advanceTime).errTo = s.errTo := rfl
@[simp] theorem State.advanceTime_errCk (s : State) : (s.advanceTime).errCk = s.errCk := rfl
@[simp] theorem State.advanceTime_fanOn (s : State) : (s.advanceTime).fanOn = s.fanOn := rfl
@[simp] theorem State.advanceTime_outOfWater (s : State) : (s.advanceTime).outOfWater = s.outOfWater := rfl
@[simp] theorem State.advanceTime_lastOutOfWater (s : State) : (s.advanceTime).lastOutOfWater = s.lastOutOfWater := rfl
@[simp] theorem State.advanceTime_setHum10 (s : State) : (s.advanceTime).setHum10 = s.setHum10 := rfl
@[simp] theorem State.advanceTime_dial10 (s : State) : (s.advanceTime).dial10 = s.dial10 := rfl
@[simp] theorem State.advanceTime_led (s : State) : (s.advanceTime).led = s.led := rfl
@[simp] theorem State.advanceTime_alm (s : State) : (s.advanceTime).alm = s.alm := rfl
@[simp] theorem State.advanceTime_wlRaw (s : State) : (s.advanceTime).wlRaw = s.wlRaw := rfl
@[simp] theorem State.advanceTime_wlMapped (s : State) : (s.advanceTime).wlMapped = s.wlMapped := rfl
@[simp] theorem State.advanceTime_wHum (s : State) : (s.advanceTime).wHum = s.wHum := rfl
@[simp] theorem State.advanceTime_wTemp (s : State) : (s.advanceTime).wTemp = s.wTemp := rfl
@[simp] theorem State.advanceTime_wWater (s : State) : (s.advanceTime).wWater = s.wWater := rfl
@[simp] theorem State.advanceTime_sumHum (s : State) : (s.advanceTime).sumHum = s.sumHum := rfl
@[simp] theorem State.advanceTime_sumTemp (s : State) : (s.advanceTime).sumTemp = s.sumTemp := rfl
@[simp] theorem State.advanceTime_sumWater (s : State) : (s.advanceTime).sumWater = s.sumWater := rfl
@[simp] theorem State.advanceTime_tmrDur (s : State) : (s.advanceTime).tmrDur = s.tmrDur := rfl
@[simp] theorem State.advanceTime_tmrStart (s : State) : (s.advanceTime).tmrStart = s.tmrStart := rfl
@[simp] theorem State.advanceTime_tmrAcc (s : State) : (s.advanceTime).tmrAcc = s.tmrAcc := rfl
@[simp] theorem State.advanceTime_tmrRun (s : State) : (s.advanceTime).tmrRun = s.tmrRun := rfl
@[simp] theorem State.advanceTime_tUs (s : State) : (s.advanceTime).tUs = if s.tUs.val + 1 = Config.STEPS_PER_MS then 0 else s.tUs + 1 := rfl
@[simp] theorem State.advanceTime_nowMs (s : State) : (s.advanceTime).nowMs = if s.tUs.val + 1 = Config.STEPS_PER_MS then s.nowMs + 1 else s.nowMs := rfl
@[simp] theorem State.advanceTime_upc (s : State) : (s.advanceTime).upc = s.upc := rfl
@[simp] theorem State.advanceTime_opE (s : State) : (s.advanceTime).opE = s.opE := rfl
@[simp] theorem State.advanceTime_faulted (s : State) : (s.advanceTime).faulted = s.faulted := rfl
@[simp] theorem State.advanceTime_par (s : State) : (s.advanceTime).par = s.par := rfl
@[simp] theorem State.advanceTime_rom (s : State) : (s.advanceTime).rom = s.rom := rfl
@[simp] theorem State.advanceTime_script (s : State) : (s.advanceTime).script = s.script := rfl
@[simp] theorem State.advanceTime_draws (s : State) : (s.advanceTime).draws = s.draws := rfl

/-! ## `State.withPins` -/

@[simp] theorem State.withPins_dhtOe (s : State) (p : PinIn) : (s.withPins p).dhtOe = s.dhtOe := rfl
@[simp] theorem State.withPins_dhtO (s : State) (p : PinIn) : (s.withPins p).dhtO = s.dhtO := rfl
@[simp] theorem State.withPins_rdHum (s : State) (p : PinIn) : (s.withPins p).rdHum = s.rdHum := rfl
@[simp] theorem State.withPins_rdTemp10 (s : State) (p : PinIn) : (s.withPins p).rdTemp10 = s.rdTemp10 := rfl
@[simp] theorem State.withPins_rdValid (s : State) (p : PinIn) : (s.withPins p).rdValid = s.rdValid := rfl
@[simp] theorem State.withPins_frame (s : State) (p : PinIn) : (s.withPins p).frame = s.frame := rfl
@[simp] theorem State.withPins_bitcnt (s : State) (p : PinIn) : (s.withPins p).bitcnt = s.bitcnt := rfl
@[simp] theorem State.withPins_decTo (s : State) (p : PinIn) : (s.withPins p).decTo = s.decTo := rfl
@[simp] theorem State.withPins_decI (s : State) (p : PinIn) : (s.withPins p).decI = s.decI := rfl
@[simp] theorem State.withPins_decCnt (s : State) (p : PinIn) : (s.withPins p).decCnt = s.decCnt := rfl
@[simp] theorem State.withPins_decLast (s : State) (p : PinIn) : (s.withPins p).decLast = s.decLast := rfl
@[simp] theorem State.withPins_decStatus (s : State) (p : PinIn) : (s.withPins p).decStatus = s.decStatus := rfl
@[simp] theorem State.withPins_errTo (s : State) (p : PinIn) : (s.withPins p).errTo = s.errTo := rfl
@[simp] theorem State.withPins_errCk (s : State) (p : PinIn) : (s.withPins p).errCk = s.errCk := rfl
@[simp] theorem State.withPins_fanOn (s : State) (p : PinIn) : (s.withPins p).fanOn = s.fanOn := rfl
@[simp] theorem State.withPins_outOfWater (s : State) (p : PinIn) : (s.withPins p).outOfWater = s.outOfWater := rfl
@[simp] theorem State.withPins_lastOutOfWater (s : State) (p : PinIn) : (s.withPins p).lastOutOfWater = s.lastOutOfWater := rfl
@[simp] theorem State.withPins_setHum10 (s : State) (p : PinIn) : (s.withPins p).setHum10 = s.setHum10 := rfl
@[simp] theorem State.withPins_dial10 (s : State) (p : PinIn) : (s.withPins p).dial10 = s.dial10 := rfl
@[simp] theorem State.withPins_led (s : State) (p : PinIn) : (s.withPins p).led = s.led := rfl
@[simp] theorem State.withPins_alm (s : State) (p : PinIn) : (s.withPins p).alm = s.alm := rfl
@[simp] theorem State.withPins_wlRaw (s : State) (p : PinIn) : (s.withPins p).wlRaw = s.wlRaw := rfl
@[simp] theorem State.withPins_wlMapped (s : State) (p : PinIn) : (s.withPins p).wlMapped = s.wlMapped := rfl
@[simp] theorem State.withPins_wHum (s : State) (p : PinIn) : (s.withPins p).wHum = s.wHum := rfl
@[simp] theorem State.withPins_wTemp (s : State) (p : PinIn) : (s.withPins p).wTemp = s.wTemp := rfl
@[simp] theorem State.withPins_wWater (s : State) (p : PinIn) : (s.withPins p).wWater = s.wWater := rfl
@[simp] theorem State.withPins_sumHum (s : State) (p : PinIn) : (s.withPins p).sumHum = s.sumHum := rfl
@[simp] theorem State.withPins_sumTemp (s : State) (p : PinIn) : (s.withPins p).sumTemp = s.sumTemp := rfl
@[simp] theorem State.withPins_sumWater (s : State) (p : PinIn) : (s.withPins p).sumWater = s.sumWater := rfl
@[simp] theorem State.withPins_tmrDur (s : State) (p : PinIn) : (s.withPins p).tmrDur = s.tmrDur := rfl
@[simp] theorem State.withPins_tmrStart (s : State) (p : PinIn) : (s.withPins p).tmrStart = s.tmrStart := rfl
@[simp] theorem State.withPins_tmrAcc (s : State) (p : PinIn) : (s.withPins p).tmrAcc = s.tmrAcc := rfl
@[simp] theorem State.withPins_tmrRun (s : State) (p : PinIn) : (s.withPins p).tmrRun = s.tmrRun := rfl
@[simp] theorem State.withPins_tUs (s : State) (p : PinIn) : (s.withPins p).tUs = s.tUs := rfl
@[simp] theorem State.withPins_nowMs (s : State) (p : PinIn) : (s.withPins p).nowMs = s.nowMs := rfl
@[simp] theorem State.withPins_upc (s : State) (p : PinIn) : (s.withPins p).upc = s.upc := rfl
@[simp] theorem State.withPins_opE (s : State) (p : PinIn) : (s.withPins p).opE = s.opE := rfl
@[simp] theorem State.withPins_faulted (s : State) (p : PinIn) : (s.withPins p).faulted = s.faulted := rfl
@[simp] theorem State.withPins_par (s : State) (p : PinIn) : (s.withPins p).par = s.par := rfl
@[simp] theorem State.withPins_rom (s : State) (p : PinIn) : (s.withPins p).rom = s.rom := rfl
@[simp] theorem State.withPins_script (s : State) (p : PinIn) : (s.withPins p).script = p :: s.script.tail := rfl
@[simp] theorem State.withPins_draws (s : State) (p : PinIn) : (s.withPins p).draws = s.draws := rfl

/-! ## `State.faultEntry` -/

@[simp] theorem State.faultEntry_dhtOe (s : State) : (s.faultEntry).dhtOe = false := rfl
@[simp] theorem State.faultEntry_dhtO (s : State) : (s.faultEntry).dhtO = s.dhtO := rfl
@[simp] theorem State.faultEntry_rdHum (s : State) : (s.faultEntry).rdHum = s.rdHum := rfl
@[simp] theorem State.faultEntry_rdTemp10 (s : State) : (s.faultEntry).rdTemp10 = s.rdTemp10 := rfl
@[simp] theorem State.faultEntry_rdValid (s : State) : (s.faultEntry).rdValid = s.rdValid := rfl
@[simp] theorem State.faultEntry_frame (s : State) : (s.faultEntry).frame = s.frame := rfl
@[simp] theorem State.faultEntry_bitcnt (s : State) : (s.faultEntry).bitcnt = s.bitcnt := rfl
@[simp] theorem State.faultEntry_decTo (s : State) : (s.faultEntry).decTo = s.decTo := rfl
@[simp] theorem State.faultEntry_decI (s : State) : (s.faultEntry).decI = s.decI := rfl
@[simp] theorem State.faultEntry_decCnt (s : State) : (s.faultEntry).decCnt = s.decCnt := rfl
@[simp] theorem State.faultEntry_decLast (s : State) : (s.faultEntry).decLast = s.decLast := rfl
@[simp] theorem State.faultEntry_decStatus (s : State) : (s.faultEntry).decStatus = s.decStatus := rfl
@[simp] theorem State.faultEntry_errTo (s : State) : (s.faultEntry).errTo = s.errTo := rfl
@[simp] theorem State.faultEntry_errCk (s : State) : (s.faultEntry).errCk = s.errCk := rfl
@[simp] theorem State.faultEntry_fanOn (s : State) : (s.faultEntry).fanOn = false := rfl
@[simp] theorem State.faultEntry_outOfWater (s : State) : (s.faultEntry).outOfWater = s.outOfWater := rfl
@[simp] theorem State.faultEntry_lastOutOfWater (s : State) : (s.faultEntry).lastOutOfWater = s.lastOutOfWater := rfl
@[simp] theorem State.faultEntry_setHum10 (s : State) : (s.faultEntry).setHum10 = s.setHum10 := rfl
@[simp] theorem State.faultEntry_dial10 (s : State) : (s.faultEntry).dial10 = s.dial10 := rfl
@[simp] theorem State.faultEntry_led (s : State) : (s.faultEntry).led = s.led := rfl
@[simp] theorem State.faultEntry_alm (s : State) : (s.faultEntry).alm = false := rfl
@[simp] theorem State.faultEntry_wlRaw (s : State) : (s.faultEntry).wlRaw = s.wlRaw := rfl
@[simp] theorem State.faultEntry_wlMapped (s : State) : (s.faultEntry).wlMapped = s.wlMapped := rfl
@[simp] theorem State.faultEntry_wHum (s : State) : (s.faultEntry).wHum = s.wHum := rfl
@[simp] theorem State.faultEntry_wTemp (s : State) : (s.faultEntry).wTemp = s.wTemp := rfl
@[simp] theorem State.faultEntry_wWater (s : State) : (s.faultEntry).wWater = s.wWater := rfl
@[simp] theorem State.faultEntry_sumHum (s : State) : (s.faultEntry).sumHum = s.sumHum := rfl
@[simp] theorem State.faultEntry_sumTemp (s : State) : (s.faultEntry).sumTemp = s.sumTemp := rfl
@[simp] theorem State.faultEntry_sumWater (s : State) : (s.faultEntry).sumWater = s.sumWater := rfl
@[simp] theorem State.faultEntry_tmrDur (s : State) : (s.faultEntry).tmrDur = s.tmrDur := rfl
@[simp] theorem State.faultEntry_tmrStart (s : State) : (s.faultEntry).tmrStart = s.tmrStart := rfl
@[simp] theorem State.faultEntry_tmrAcc (s : State) : (s.faultEntry).tmrAcc = s.tmrAcc := rfl
@[simp] theorem State.faultEntry_tmrRun (s : State) : (s.faultEntry).tmrRun = s.tmrRun := rfl
@[simp] theorem State.faultEntry_tUs (s : State) : (s.faultEntry).tUs = s.tUs := rfl
@[simp] theorem State.faultEntry_nowMs (s : State) : (s.faultEntry).nowMs = s.nowMs := rfl
@[simp] theorem State.faultEntry_upc (s : State) : (s.faultEntry).upc = s.upc := rfl
@[simp] theorem State.faultEntry_opE (s : State) : (s.faultEntry).opE = 0 := rfl
@[simp] theorem State.faultEntry_faulted (s : State) : (s.faultEntry).faulted = true := rfl
@[simp] theorem State.faultEntry_par (s : State) : (s.faultEntry).par = s.par := rfl
@[simp] theorem State.faultEntry_rom (s : State) : (s.faultEntry).rom = s.rom := rfl
@[simp] theorem State.faultEntry_script (s : State) : (s.faultEntry).script = s.script := rfl
@[simp] theorem State.faultEntry_draws (s : State) : (s.faultEntry).draws = s.draws := rfl

/-! ## `State.startHandshake` -/

@[simp] theorem State.startHandshake_dhtOe (s : State) : (s.startHandshake).dhtOe = true := rfl
@[simp] theorem State.startHandshake_dhtO (s : State) : (s.startHandshake).dhtO = false := rfl
@[simp] theorem State.startHandshake_rdHum (s : State) : (s.startHandshake).rdHum = s.rdHum := rfl
@[simp] theorem State.startHandshake_rdTemp10 (s : State) : (s.startHandshake).rdTemp10 = s.rdTemp10 := rfl
@[simp] theorem State.startHandshake_rdValid (s : State) : (s.startHandshake).rdValid = s.rdValid := rfl
@[simp] theorem State.startHandshake_frame (s : State) : (s.startHandshake).frame = Vector.replicate Config.FRAME_BYTES 0 := rfl
@[simp] theorem State.startHandshake_bitcnt (s : State) : (s.startHandshake).bitcnt = 0 := rfl
@[simp] theorem State.startHandshake_decTo (s : State) : (s.startHandshake).decTo = false := rfl
@[simp] theorem State.startHandshake_decI (s : State) : (s.startHandshake).decI = s.decI := rfl
@[simp] theorem State.startHandshake_decCnt (s : State) : (s.startHandshake).decCnt = s.decCnt := rfl
@[simp] theorem State.startHandshake_decLast (s : State) : (s.startHandshake).decLast = s.decLast := rfl
@[simp] theorem State.startHandshake_decStatus (s : State) : (s.startHandshake).decStatus = s.decStatus := rfl
@[simp] theorem State.startHandshake_errTo (s : State) : (s.startHandshake).errTo = s.errTo := rfl
@[simp] theorem State.startHandshake_errCk (s : State) : (s.startHandshake).errCk = s.errCk := rfl
@[simp] theorem State.startHandshake_fanOn (s : State) : (s.startHandshake).fanOn = s.fanOn := rfl
@[simp] theorem State.startHandshake_outOfWater (s : State) : (s.startHandshake).outOfWater = s.outOfWater := rfl
@[simp] theorem State.startHandshake_lastOutOfWater (s : State) : (s.startHandshake).lastOutOfWater = s.lastOutOfWater := rfl
@[simp] theorem State.startHandshake_setHum10 (s : State) : (s.startHandshake).setHum10 = s.setHum10 := rfl
@[simp] theorem State.startHandshake_dial10 (s : State) : (s.startHandshake).dial10 = s.dial10 := rfl
@[simp] theorem State.startHandshake_led (s : State) : (s.startHandshake).led = s.led := rfl
@[simp] theorem State.startHandshake_alm (s : State) : (s.startHandshake).alm = s.alm := rfl
@[simp] theorem State.startHandshake_wlRaw (s : State) : (s.startHandshake).wlRaw = s.wlRaw := rfl
@[simp] theorem State.startHandshake_wlMapped (s : State) : (s.startHandshake).wlMapped = s.wlMapped := rfl
@[simp] theorem State.startHandshake_wHum (s : State) : (s.startHandshake).wHum = s.wHum := rfl
@[simp] theorem State.startHandshake_wTemp (s : State) : (s.startHandshake).wTemp = s.wTemp := rfl
@[simp] theorem State.startHandshake_wWater (s : State) : (s.startHandshake).wWater = s.wWater := rfl
@[simp] theorem State.startHandshake_sumHum (s : State) : (s.startHandshake).sumHum = s.sumHum := rfl
@[simp] theorem State.startHandshake_sumTemp (s : State) : (s.startHandshake).sumTemp = s.sumTemp := rfl
@[simp] theorem State.startHandshake_sumWater (s : State) : (s.startHandshake).sumWater = s.sumWater := rfl
@[simp] theorem State.startHandshake_tmrDur (s : State) : (s.startHandshake).tmrDur = s.tmrDur := rfl
@[simp] theorem State.startHandshake_tmrStart (s : State) : (s.startHandshake).tmrStart = s.tmrStart := rfl
@[simp] theorem State.startHandshake_tmrAcc (s : State) : (s.startHandshake).tmrAcc = s.tmrAcc := rfl
@[simp] theorem State.startHandshake_tmrRun (s : State) : (s.startHandshake).tmrRun = s.tmrRun := rfl
@[simp] theorem State.startHandshake_tUs (s : State) : (s.startHandshake).tUs = s.tUs := rfl
@[simp] theorem State.startHandshake_nowMs (s : State) : (s.startHandshake).nowMs = s.nowMs := rfl
@[simp] theorem State.startHandshake_upc (s : State) : (s.startHandshake).upc = s.upc := rfl
@[simp] theorem State.startHandshake_opE (s : State) : (s.startHandshake).opE = s.opE := rfl
@[simp] theorem State.startHandshake_faulted (s : State) : (s.startHandshake).faulted = s.faulted := rfl
@[simp] theorem State.startHandshake_par (s : State) : (s.startHandshake).par = s.par := rfl
@[simp] theorem State.startHandshake_rom (s : State) : (s.startHandshake).rom = s.rom := rfl
@[simp] theorem State.startHandshake_script (s : State) : (s.startHandshake).script = s.script := rfl
@[simp] theorem State.startHandshake_draws (s : State) : (s.startHandshake).draws = s.draws := rfl

/-! ## `State.resetStep` -/

@[simp] theorem State.resetStep_dhtOe (s : State) : s.resetStep.dhtOe = State.reset.dhtOe := rfl
@[simp] theorem State.resetStep_dhtO (s : State) : s.resetStep.dhtO = State.reset.dhtO := rfl
@[simp] theorem State.resetStep_rdHum (s : State) : s.resetStep.rdHum = State.reset.rdHum := rfl
@[simp] theorem State.resetStep_rdTemp10 (s : State) : s.resetStep.rdTemp10 = State.reset.rdTemp10 := rfl
@[simp] theorem State.resetStep_rdValid (s : State) : s.resetStep.rdValid = State.reset.rdValid := rfl
@[simp] theorem State.resetStep_frame (s : State) : s.resetStep.frame = State.reset.frame := rfl
@[simp] theorem State.resetStep_bitcnt (s : State) : s.resetStep.bitcnt = State.reset.bitcnt := rfl
@[simp] theorem State.resetStep_decTo (s : State) : s.resetStep.decTo = State.reset.decTo := rfl
@[simp] theorem State.resetStep_decI (s : State) : s.resetStep.decI = State.reset.decI := rfl
@[simp] theorem State.resetStep_decCnt (s : State) : s.resetStep.decCnt = State.reset.decCnt := rfl
@[simp] theorem State.resetStep_decLast (s : State) : s.resetStep.decLast = State.reset.decLast := rfl
@[simp] theorem State.resetStep_decStatus (s : State) : s.resetStep.decStatus = State.reset.decStatus := rfl
@[simp] theorem State.resetStep_errTo (s : State) : s.resetStep.errTo = State.reset.errTo := rfl
@[simp] theorem State.resetStep_errCk (s : State) : s.resetStep.errCk = State.reset.errCk := rfl
@[simp] theorem State.resetStep_fanOn (s : State) : s.resetStep.fanOn = State.reset.fanOn := rfl
@[simp] theorem State.resetStep_outOfWater (s : State) : s.resetStep.outOfWater = State.reset.outOfWater := rfl
@[simp] theorem State.resetStep_lastOutOfWater (s : State) : s.resetStep.lastOutOfWater = State.reset.lastOutOfWater := rfl
@[simp] theorem State.resetStep_setHum10 (s : State) : s.resetStep.setHum10 = State.reset.setHum10 := rfl
@[simp] theorem State.resetStep_dial10 (s : State) : s.resetStep.dial10 = State.reset.dial10 := rfl
@[simp] theorem State.resetStep_led (s : State) : s.resetStep.led = State.reset.led := rfl
@[simp] theorem State.resetStep_alm (s : State) : s.resetStep.alm = State.reset.alm := rfl
@[simp] theorem State.resetStep_wlRaw (s : State) : s.resetStep.wlRaw = State.reset.wlRaw := rfl
@[simp] theorem State.resetStep_wlMapped (s : State) : s.resetStep.wlMapped = State.reset.wlMapped := rfl
@[simp] theorem State.resetStep_wHum (s : State) : s.resetStep.wHum = List.replicate s.par.nWin 0 := rfl
@[simp] theorem State.resetStep_wTemp (s : State) : s.resetStep.wTemp = List.replicate s.par.nWin 0 := rfl
@[simp] theorem State.resetStep_wWater (s : State) : s.resetStep.wWater = List.replicate s.par.nWin 0 := rfl
@[simp] theorem State.resetStep_sumHum (s : State) : s.resetStep.sumHum = State.reset.sumHum := rfl
@[simp] theorem State.resetStep_sumTemp (s : State) : s.resetStep.sumTemp = State.reset.sumTemp := rfl
@[simp] theorem State.resetStep_sumWater (s : State) : s.resetStep.sumWater = State.reset.sumWater := rfl
@[simp] theorem State.resetStep_tmrDur (s : State) : s.resetStep.tmrDur = s.tickDur := rfl
@[simp] theorem State.resetStep_tmrStart (s : State) : s.resetStep.tmrStart = State.reset.tmrStart := rfl
@[simp] theorem State.resetStep_tmrAcc (s : State) : s.resetStep.tmrAcc = State.reset.tmrAcc := rfl
@[simp] theorem State.resetStep_tmrRun (s : State) : s.resetStep.tmrRun = State.reset.tmrRun := rfl
@[simp] theorem State.resetStep_tUs (s : State) : s.resetStep.tUs = State.reset.tUs := rfl
@[simp] theorem State.resetStep_nowMs (s : State) : s.resetStep.nowMs = State.reset.nowMs := rfl
@[simp] theorem State.resetStep_upc (s : State) : s.resetStep.upc = State.reset.upc := rfl
@[simp] theorem State.resetStep_opE (s : State) : s.resetStep.opE = State.reset.opE := rfl
@[simp] theorem State.resetStep_faulted (s : State) : s.resetStep.faulted = State.reset.faulted := rfl
@[simp] theorem State.resetStep_par (s : State) : s.resetStep.par = s.par := rfl
@[simp] theorem State.resetStep_rom (s : State) : s.resetStep.rom = s.rom := rfl
@[simp] theorem State.resetStep_script (s : State) : s.resetStep.script = s.script.tail := rfl
@[simp] theorem State.resetStep_draws (s : State) : s.resetStep.draws = s.draws + 1 := rfl

/-! ## `State.finishAt`: an op's end moves only `op_e` and `upc` -/

@[simp] theorem State.finishAt_dhtOe (d : Nat) (s : State) : (s.finishAt d).dhtOe = s.dhtOe := by
  unfold State.finishAt; split <;> rfl
@[simp] theorem State.finishAt_dhtO (d : Nat) (s : State) : (s.finishAt d).dhtO = s.dhtO := by
  unfold State.finishAt; split <;> rfl
@[simp] theorem State.finishAt_rdHum (d : Nat) (s : State) : (s.finishAt d).rdHum = s.rdHum := by
  unfold State.finishAt; split <;> rfl
@[simp] theorem State.finishAt_rdTemp10 (d : Nat) (s : State) : (s.finishAt d).rdTemp10 = s.rdTemp10 := by
  unfold State.finishAt; split <;> rfl
@[simp] theorem State.finishAt_rdValid (d : Nat) (s : State) : (s.finishAt d).rdValid = s.rdValid := by
  unfold State.finishAt; split <;> rfl
@[simp] theorem State.finishAt_frame (d : Nat) (s : State) : (s.finishAt d).frame = s.frame := by
  unfold State.finishAt; split <;> rfl
@[simp] theorem State.finishAt_bitcnt (d : Nat) (s : State) : (s.finishAt d).bitcnt = s.bitcnt := by
  unfold State.finishAt; split <;> rfl
@[simp] theorem State.finishAt_decTo (d : Nat) (s : State) : (s.finishAt d).decTo = s.decTo := by
  unfold State.finishAt; split <;> rfl
@[simp] theorem State.finishAt_decI (d : Nat) (s : State) : (s.finishAt d).decI = s.decI := by
  unfold State.finishAt; split <;> rfl
@[simp] theorem State.finishAt_decCnt (d : Nat) (s : State) : (s.finishAt d).decCnt = s.decCnt := by
  unfold State.finishAt; split <;> rfl
@[simp] theorem State.finishAt_decLast (d : Nat) (s : State) : (s.finishAt d).decLast = s.decLast := by
  unfold State.finishAt; split <;> rfl
@[simp] theorem State.finishAt_decStatus (d : Nat) (s : State) : (s.finishAt d).decStatus = s.decStatus := by
  unfold State.finishAt; split <;> rfl
@[simp] theorem State.finishAt_errTo (d : Nat) (s : State) : (s.finishAt d).errTo = s.errTo := by
  unfold State.finishAt; split <;> rfl
@[simp] theorem State.finishAt_errCk (d : Nat) (s : State) : (s.finishAt d).errCk = s.errCk := by
  unfold State.finishAt; split <;> rfl
@[simp] theorem State.finishAt_fanOn (d : Nat) (s : State) : (s.finishAt d).fanOn = s.fanOn := by
  unfold State.finishAt; split <;> rfl
@[simp] theorem State.finishAt_outOfWater (d : Nat) (s : State) : (s.finishAt d).outOfWater = s.outOfWater := by
  unfold State.finishAt; split <;> rfl
@[simp] theorem State.finishAt_lastOutOfWater (d : Nat) (s : State) : (s.finishAt d).lastOutOfWater = s.lastOutOfWater := by
  unfold State.finishAt; split <;> rfl
@[simp] theorem State.finishAt_setHum10 (d : Nat) (s : State) : (s.finishAt d).setHum10 = s.setHum10 := by
  unfold State.finishAt; split <;> rfl
@[simp] theorem State.finishAt_dial10 (d : Nat) (s : State) : (s.finishAt d).dial10 = s.dial10 := by
  unfold State.finishAt; split <;> rfl
@[simp] theorem State.finishAt_led (d : Nat) (s : State) : (s.finishAt d).led = s.led := by
  unfold State.finishAt; split <;> rfl
@[simp] theorem State.finishAt_alm (d : Nat) (s : State) : (s.finishAt d).alm = s.alm := by
  unfold State.finishAt; split <;> rfl
@[simp] theorem State.finishAt_wlRaw (d : Nat) (s : State) : (s.finishAt d).wlRaw = s.wlRaw := by
  unfold State.finishAt; split <;> rfl
@[simp] theorem State.finishAt_wlMapped (d : Nat) (s : State) : (s.finishAt d).wlMapped = s.wlMapped := by
  unfold State.finishAt; split <;> rfl
@[simp] theorem State.finishAt_wHum (d : Nat) (s : State) : (s.finishAt d).wHum = s.wHum := by
  unfold State.finishAt; split <;> rfl
@[simp] theorem State.finishAt_wTemp (d : Nat) (s : State) : (s.finishAt d).wTemp = s.wTemp := by
  unfold State.finishAt; split <;> rfl
@[simp] theorem State.finishAt_wWater (d : Nat) (s : State) : (s.finishAt d).wWater = s.wWater := by
  unfold State.finishAt; split <;> rfl
@[simp] theorem State.finishAt_sumHum (d : Nat) (s : State) : (s.finishAt d).sumHum = s.sumHum := by
  unfold State.finishAt; split <;> rfl
@[simp] theorem State.finishAt_sumTemp (d : Nat) (s : State) : (s.finishAt d).sumTemp = s.sumTemp := by
  unfold State.finishAt; split <;> rfl
@[simp] theorem State.finishAt_sumWater (d : Nat) (s : State) : (s.finishAt d).sumWater = s.sumWater := by
  unfold State.finishAt; split <;> rfl
@[simp] theorem State.finishAt_tmrDur (d : Nat) (s : State) : (s.finishAt d).tmrDur = s.tmrDur := by
  unfold State.finishAt; split <;> rfl
@[simp] theorem State.finishAt_tmrStart (d : Nat) (s : State) : (s.finishAt d).tmrStart = s.tmrStart := by
  unfold State.finishAt; split <;> rfl
@[simp] theorem State.finishAt_tmrAcc (d : Nat) (s : State) : (s.finishAt d).tmrAcc = s.tmrAcc := by
  unfold State.finishAt; split <;> rfl
@[simp] theorem State.finishAt_tmrRun (d : Nat) (s : State) : (s.finishAt d).tmrRun = s.tmrRun := by
  unfold State.finishAt; split <;> rfl
@[simp] theorem State.finishAt_tUs (d : Nat) (s : State) : (s.finishAt d).tUs = s.tUs := by
  unfold State.finishAt; split <;> rfl
@[simp] theorem State.finishAt_nowMs (d : Nat) (s : State) : (s.finishAt d).nowMs = s.nowMs := by
  unfold State.finishAt; split <;> rfl
@[simp] theorem State.finishAt_faulted (d : Nat) (s : State) : (s.finishAt d).faulted = s.faulted := by
  unfold State.finishAt; split <;> rfl
@[simp] theorem State.finishAt_par (d : Nat) (s : State) : (s.finishAt d).par = s.par := by
  unfold State.finishAt; split <;> rfl
@[simp] theorem State.finishAt_rom (d : Nat) (s : State) : (s.finishAt d).rom = s.rom := by
  unfold State.finishAt; split <;> rfl
@[simp] theorem State.finishAt_script (d : Nat) (s : State) : (s.finishAt d).script = s.script := by
  unfold State.finishAt; split <;> rfl
@[simp] theorem State.finishAt_draws (d : Nat) (s : State) : (s.finishAt d).draws = s.draws := by
  unfold State.finishAt; split <;> rfl

/-! ## `State.endStep` -/

@[simp] theorem State.endStep_dhtOe (s : State) : s.endStep.dhtOe = s.dhtOe := rfl
@[simp] theorem State.endStep_dhtO (s : State) : s.endStep.dhtO = s.dhtO := rfl
@[simp] theorem State.endStep_rdHum (s : State) : s.endStep.rdHum = s.rdHum := rfl
@[simp] theorem State.endStep_rdTemp10 (s : State) : s.endStep.rdTemp10 = s.rdTemp10 := rfl
@[simp] theorem State.endStep_rdValid (s : State) : s.endStep.rdValid = s.rdValid := rfl
@[simp] theorem State.endStep_frame (s : State) : s.endStep.frame = s.frame := rfl
@[simp] theorem State.endStep_bitcnt (s : State) : s.endStep.bitcnt = s.bitcnt := rfl
@[simp] theorem State.endStep_decTo (s : State) : s.endStep.decTo = s.decTo := rfl
@[simp] theorem State.endStep_decI (s : State) : s.endStep.decI = s.decI := rfl
@[simp] theorem State.endStep_decCnt (s : State) : s.endStep.decCnt = s.decCnt := rfl
@[simp] theorem State.endStep_decLast (s : State) : s.endStep.decLast = s.decLast := rfl
@[simp] theorem State.endStep_decStatus (s : State) : s.endStep.decStatus = s.decStatus := rfl
@[simp] theorem State.endStep_errTo (s : State) : s.endStep.errTo = s.errTo := rfl
@[simp] theorem State.endStep_errCk (s : State) : s.endStep.errCk = s.errCk := rfl
@[simp] theorem State.endStep_fanOn (s : State) : s.endStep.fanOn = s.fanOn := rfl
@[simp] theorem State.endStep_outOfWater (s : State) : s.endStep.outOfWater = s.outOfWater := rfl
@[simp] theorem State.endStep_lastOutOfWater (s : State) : s.endStep.lastOutOfWater = s.lastOutOfWater := rfl
@[simp] theorem State.endStep_setHum10 (s : State) : s.endStep.setHum10 = s.setHum10 := rfl
@[simp] theorem State.endStep_dial10 (s : State) : s.endStep.dial10 = s.dial10 := rfl
@[simp] theorem State.endStep_led (s : State) : s.endStep.led = s.led := rfl
@[simp] theorem State.endStep_alm (s : State) : s.endStep.alm = s.alm := rfl
@[simp] theorem State.endStep_wlRaw (s : State) : s.endStep.wlRaw = s.wlRaw := rfl
@[simp] theorem State.endStep_wlMapped (s : State) : s.endStep.wlMapped = s.wlMapped := rfl
@[simp] theorem State.endStep_wHum (s : State) : s.endStep.wHum = s.wHum := rfl
@[simp] theorem State.endStep_wTemp (s : State) : s.endStep.wTemp = s.wTemp := rfl
@[simp] theorem State.endStep_wWater (s : State) : s.endStep.wWater = s.wWater := rfl
@[simp] theorem State.endStep_sumHum (s : State) : s.endStep.sumHum = s.sumHum := rfl
@[simp] theorem State.endStep_sumTemp (s : State) : s.endStep.sumTemp = s.sumTemp := rfl
@[simp] theorem State.endStep_sumWater (s : State) : s.endStep.sumWater = s.sumWater := rfl
@[simp] theorem State.endStep_tmrDur (s : State) : s.endStep.tmrDur = s.tmrDur := rfl
@[simp] theorem State.endStep_tmrStart (s : State) : s.endStep.tmrStart = s.tmrStart := rfl
@[simp] theorem State.endStep_tmrAcc (s : State) : s.endStep.tmrAcc = s.tmrAcc := rfl
@[simp] theorem State.endStep_tmrRun (s : State) : s.endStep.tmrRun = s.tmrRun := rfl
@[simp] theorem State.endStep_tUs (s : State) : s.endStep.tUs = if s.tUs.val + 1 = Config.STEPS_PER_MS then 0 else s.tUs + 1 := rfl
@[simp] theorem State.endStep_nowMs (s : State) : s.endStep.nowMs = if s.tUs.val + 1 = Config.STEPS_PER_MS then s.nowMs + 1 else s.nowMs := rfl
@[simp] theorem State.endStep_upc (s : State) : s.endStep.upc = s.upc := rfl
@[simp] theorem State.endStep_opE (s : State) : s.endStep.opE = s.opE := rfl
@[simp] theorem State.endStep_faulted (s : State) : s.endStep.faulted = s.faulted := rfl
@[simp] theorem State.endStep_par (s : State) : s.endStep.par = s.par := rfl
@[simp] theorem State.endStep_rom (s : State) : s.endStep.rom = s.rom := rfl
@[simp] theorem State.endStep_script (s : State) : s.endStep.script = s.script.tail := rfl
@[simp] theorem State.endStep_draws (s : State) : s.endStep.draws = s.draws + 1 := rfl

end Sys2Proof.Machine
end

