-- ==== Sys2Proof/Laws/Ops.lean ====
section
/-! SUPPORT. What each shared operation does, said once: narrowing, the pins, the end of an op, the fetch. -/

namespace Sys2Proof.Machine

/-! ## Narrowing -/

theorem orFree_of_lt {w v : Nat} (free : BitVec w) (h : v < 2 ^ w) : orFree w free v = BitVec.ofNat w v :=
  if_pos h

@[simp] theorem toNat_orFree_of_lt {w v : Nat} (free : BitVec w) (h : v < 2 ^ w) : (orFree w free v).toNat = v := by
  rw [orFree_of_lt free h, BitVec.toNat_ofNat, Nat.mod_eq_of_lt h]

theorem orFreeInt_of_mem {w : Nat} {v : Int} (free : BitVec w) (h : -2 ^ (w - 1) ≤ v ∧ v < 2 ^ (w - 1)) :
    orFreeInt w free v = BitVec.ofInt w v := if_pos h

/-- A two's complement value that fits is the one stored. -/
@[simp] theorem toInt_orFreeInt_of_mem {w : Nat} {v : Int} (free : BitVec w) (hw : 0 < w)
    (h : -2 ^ (w - 1) ≤ v ∧ v < 2 ^ (w - 1)) : (orFreeInt w free v).toInt = v := by
  rw [orFreeInt_of_mem free h, BitVec.toInt_ofInt_eq_self hw h.1 h.2]

/-- `tmr_dur` holds `TICK_PERIOD_MS` where that fits 32 bits. -/
theorem State.tickDur_toNat {s : State} (h : s.par.tickPeriodMs < 2 ^ 32) : s.tickDur.toNat = s.par.tickPeriodMs :=
  toNat_orFree_of_lt _ h

/-! ## Pins -/

/-- The environment's end of a step moves every later input level one step nearer. -/
theorem State.pinsAt_nextDraw (s : State) (k : Nat) : s.nextDraw.pinsAt k = s.pinsAt (k + 1) := by
  simp [State.pinsAt, Nat.add_assoc, Nat.add_comm 1]

@[simp] theorem State.pins_withPins (s : State) (p : PinIn) : (s.withPins p).pins = p := rfl

/-- A state's input levels depend on the two environment fields only. -/
theorem State.pinsAt_congr {s t : State} (h : t.script = s.script) (h' : t.draws = s.draws) (k : Nat) :
    t.pinsAt k = s.pinsAt k := by
  simp [State.pinsAt, h, h']

theorem noReset_zero (s : State) : NoReset s 0 := fun _ h => absurd h (Nat.not_lt_zero _)

theorem NoReset.now {s : State} {n : Nat} (h : NoReset s (n + 1)) : s.pins.rst = false := h 0 (Nat.succ_pos n)

theorem NoReset.mono {s : State} {m n : Nat} (h : NoReset s n) (hm : m ≤ n) : NoReset s m :=
  fun k hk => h k (Nat.lt_of_lt_of_le hk hm)

/-- Reset-free steps stay so after one of them. -/
theorem NoReset.tail {s t : State} {n : Nat} (h : NoReset s (n + 1)) (hs : t.script = s.script.tail)
    (hd : t.draws = s.draws + 1) : NoReset t n := fun k hk => by
  rw [State.pinsAt_congr (s := s.nextDraw) hs hd, State.pinsAt_nextDraw]
  exact h (k + 1) (Nat.succ_lt_succ hk)

/-- An environment that holds the same reset-free levels for `n` steps. -/
theorem noReset_replicate (s : State) (n : Nat) {p : PinIn} (h : p.rst = false) :
    NoReset { s with script := List.replicate n p } n := fun k hk => by
  simp [State.pinsAt, hk, h]

/-! ## The end of an op -/

/-- A multi-step op ends in its last step, and in no other: the counter goes on and `upc` stays. -/
theorem State.finishAt_eq (d : Nat) (s : State) :
    s.finishAt d = if s.opE.toNat + 1 = d then s.complete else s.hold := rfl

theorem State.finishAt_last {d : Nat} {s : State} (h : s.opE.toNat + 1 = d) : s.finishAt d = s.complete := if_pos h

theorem State.finishAt_more {d : Nat} {s : State} (h : s.opE.toNat + 1 ≠ d) : s.finishAt d = s.hold := if_neg h

/-- An op that is not at its counter's end counts one step more. -/
theorem State.hold_opE_toNat {s : State} (h : s.opE.toNat + 1 < 2 ^ 32) : s.hold.opE.toNat = s.opE.toNat + 1 := by
  simp [toNat_orFree_of_lt _ h]

/-! ## The fetch -/

/-- The fetch reads the ROM and `upc` only. -/
theorem State.fetch_congr {s t : State} (hr : t.rom = s.rom) (hu : t.upc = s.upc) : t.fetch = s.fetch := by
  simp [State.fetch, State.fetchWord, hr, hu]

/-- With the normative ROM the fetch reads the microprogram. -/
theorem State.fetch_normative {s : State} (h : NormativeRom s) : s.fetch = decode (normativeWord s.upc.toNat) := by
  rw [State.fetch, State.fetchWord, h, romWord_normative]

end Sys2Proof.Machine
end

