-- ==== Sys2Proof/Laws/PerInstr.lean ====
section
/-! SUPPORT. Facts about every instruction as syntax, one lemma for each constructor. Family EncodeTable: the
encoder's word has the bits that the instruction's row of spec/opcode_table.json fixes. -/

namespace Sys2Proof.Laws

/-- The `match` value of an instruction's row of the table. -/
def tableMatch : Instr → OpWord
  | .nop => 0x0000
  | .dhtStart => 0x0400
  | .dhtWake => 0x0800
  | .dhtRelease => 0x0C00
  | .dhtSample => 0x1000
  | .dhtCheck => 0x1400
  | .dhtConvert => 0x1800
  | .winFill _ => 0x2000
  | .winShift _ => 0x2400
  | .winAvg _ => 0x2800
  | .wlSample => 0x4000
  | .wlEval => 0x4400
  | .dialRead => 0x6000
  | .setLatch => 0x6400
  | .ctlFan => 0x6800
  | .ctlRefill => 0x6C00
  | .ctlEmpty => 0x7000
  | .ctlCommit => 0x7400
  | .tmrStart => 0x8000
  | .tmrStop => 0x8400
  | .tmrReset => 0x8800
  | .tmrRestart => 0x8C00
  | .brNotElapsed _ => 0xA000
  | .brDecFail _ => 0xA400
  | .jmp _ => 0xA800
  | .wait _ => 0xAC00

/-- The `mask` value of an instruction's row of the table. -/
def tableMask : Instr → OpWord
  | .winFill _ | .winShift _ | .winAvg _ | .wait _ => 0xFCFF
  | .brNotElapsed _ | .brDecFail _ | .jmp _ => 0xFF00
  | .nop | .dhtStart | .dhtWake | .dhtRelease | .dhtSample | .dhtCheck | .dhtConvert => 0xFFFF
  | .wlSample | .wlEval | .dialRead | .setLatch | .ctlFan | .ctlRefill | .ctlEmpty | .ctlCommit => 0xFFFF
  | .tmrStart | .tmrStop | .tmrReset | .tmrRestart => 0xFFFF

/-- The encoder's word agrees with the table's row on every bit the row fixes. -/
def EncodeTable.Statement (i : Instr) : Prop := encode i &&& tableMask i = tableMatch i

theorem EncodeTable.nop : EncodeTable.Statement .nop := by unfold EncodeTable.Statement; decide
theorem EncodeTable.dhtStart : EncodeTable.Statement .dhtStart := by unfold EncodeTable.Statement; decide
theorem EncodeTable.dhtWake : EncodeTable.Statement .dhtWake := by unfold EncodeTable.Statement; decide
theorem EncodeTable.dhtRelease : EncodeTable.Statement .dhtRelease := by unfold EncodeTable.Statement; decide
theorem EncodeTable.dhtSample : EncodeTable.Statement .dhtSample := by unfold EncodeTable.Statement; decide
theorem EncodeTable.dhtCheck : EncodeTable.Statement .dhtCheck := by unfold EncodeTable.Statement; decide
theorem EncodeTable.dhtConvert : EncodeTable.Statement .dhtConvert := by unfold EncodeTable.Statement; decide
theorem EncodeTable.winFill (w : Win) : EncodeTable.Statement (.winFill w) := by
  unfold EncodeTable.Statement; cases w <;> decide
theorem EncodeTable.winShift (w : Win) : EncodeTable.Statement (.winShift w) := by
  unfold EncodeTable.Statement; cases w <;> decide
theorem EncodeTable.winAvg (w : Win) : EncodeTable.Statement (.winAvg w) := by
  unfold EncodeTable.Statement; cases w <;> decide
theorem EncodeTable.wlSample : EncodeTable.Statement .wlSample := by unfold EncodeTable.Statement; decide
theorem EncodeTable.wlEval : EncodeTable.Statement .wlEval := by unfold EncodeTable.Statement; decide
theorem EncodeTable.dialRead : EncodeTable.Statement .dialRead := by unfold EncodeTable.Statement; decide
theorem EncodeTable.setLatch : EncodeTable.Statement .setLatch := by unfold EncodeTable.Statement; decide
theorem EncodeTable.ctlFan : EncodeTable.Statement .ctlFan := by unfold EncodeTable.Statement; decide
theorem EncodeTable.ctlRefill : EncodeTable.Statement .ctlRefill := by unfold EncodeTable.Statement; decide
theorem EncodeTable.ctlEmpty : EncodeTable.Statement .ctlEmpty := by unfold EncodeTable.Statement; decide
theorem EncodeTable.ctlCommit : EncodeTable.Statement .ctlCommit := by unfold EncodeTable.Statement; decide
theorem EncodeTable.tmrStart : EncodeTable.Statement .tmrStart := by unfold EncodeTable.Statement; decide
theorem EncodeTable.tmrStop : EncodeTable.Statement .tmrStop := by unfold EncodeTable.Statement; decide
theorem EncodeTable.tmrReset : EncodeTable.Statement .tmrReset := by unfold EncodeTable.Statement; decide
theorem EncodeTable.tmrRestart : EncodeTable.Statement .tmrRestart := by unfold EncodeTable.Statement; decide
theorem EncodeTable.brNotElapsed (t : BitVec 8) : EncodeTable.Statement (.brNotElapsed t) := by
  revert t; unfold EncodeTable.Statement; decide
theorem EncodeTable.brDecFail (t : BitVec 8) : EncodeTable.Statement (.brDecFail t) := by
  revert t; unfold EncodeTable.Statement; decide
theorem EncodeTable.jmp (t : BitVec 8) : EncodeTable.Statement (.jmp t) := by
  revert t; unfold EncodeTable.Statement; decide
theorem EncodeTable.wait (w : WaitSel) : EncodeTable.Statement (.wait w) := by
  unfold EncodeTable.Statement; cases w <;> decide

end Sys2Proof.Laws
end

