-- ==== Sys2Proof/Laws/Step.lean ====
section
/-! SUPPORT. What one step can do, said once, and runs of steps. -/

namespace Sys2Proof.Machine

/-- Every meaning answers a next state. -/
theorem exec_next (i : Instr) (s : State) : ∃ t, exec i s = .next t := by
  cases i <;> exact ⟨_, rfl⟩

/-- Everything a step can do: a reset step, a step of the fault state, a fault entry, or one step of the
fetched op, each with its end of step. -/
theorem step_cases {s t : State} (h : step s = .next t) :
    (s.pins.rst = true ∧ t = s.resetStep) ∨
    (s.pins.rst = false ∧ s.faulted = true ∧ t = s.endStep) ∨
    (s.pins.rst = false ∧ s.faulted = false ∧ s.fetch = none ∧ t = s.faultEntry.endStep) ∨
    (s.pins.rst = false ∧ ∃ i u, AtOp s i ∧ exec i s = .next u ∧ t = u.endStep) := by
  unfold step at h
  split at h
  · rename_i hr
    exact .inl ⟨hr, (Host.Outcome.next.inj h).symm⟩
  · rename_i hr
    have hr : s.pins.rst = false := by simpa using hr
    split at h
    · rename_i hf
      exact .inr (.inl ⟨hr, hf, (Host.Outcome.next.inj h).symm⟩)
    · rename_i hf
      have hf : s.faulted = false := by simpa using hf
      split at h
      · rename_i hn
        exact .inr (.inr (.inl ⟨hr, hf, hn, (Host.Outcome.next.inj h).symm⟩))
      · rename_i i hi
        obtain ⟨u, hu⟩ := exec_next i s
        rw [hu] at h
        exact .inr (.inr (.inr ⟨hr, i, u, ⟨hf, hi⟩, hu, (Host.Outcome.next.inj h).symm⟩))

/-- A reset-free step at an op is that op's step and the end of the step. -/
theorem step_of_atOp {s t : State} {i : Instr} (hr : s.pins.rst = false) (ha : AtOp s i) (he : exec i s = .next t) :
    step s = .next t.endStep := by
  simp [step, hr, ha.1, ha.2, he]

theorem State.run_zero (s : State) : s.run 0 = .next s := rfl

theorem State.run_succ {s t : State} (n : Nat) (h : step s = .next t) : s.run (n + 1) = t.run n := by
  rw [State.run, h]

theorem State.run_succ_refused {s : State} {r : Refusal} (n : Nat) (h : step s = .refused r) :
    s.run (n + 1) = .refused r := by
  rw [State.run, h]

/-- A run is the host's run of its machine. -/
theorem State.run_eq_core (n : Nat) (s : State) : s.run n = Sys2Proof.core.run n s := by
  induction n generalizing s with
  | zero => rfl
  | succ n ih =>
    refine Eq.trans ?_ (Host.Core.run.eq_2 Sys2Proof.core s n).symm
    cases h : step s with
    | next t =>
      rw [State.run_succ n h, ih]
      rw [show Sys2Proof.core.step s = .next t from h]
    | fault r => exact nomatch r
    | refused r =>
      rw [State.run_succ_refused n h]
      rw [show Sys2Proof.core.step s = .refused r from h]
      rfl

/-- A run of `m + n` steps is a run of `m` and then one of `n`. -/
theorem State.run_add {s t : State} {m : Nat} (n : Nat) (h : s.run m = .next t) : s.run (m + n) = t.run n := by
  induction m generalizing s with
  | zero => rw [State.run_zero] at h; rw [Nat.zero_add, Host.Outcome.next.inj h]
  | succ m ih =>
    cases hs : step s with
    | next u =>
      rw [State.run_succ _ hs] at h
      rw [Nat.add_right_comm, State.run_succ _ hs, ih h]
    | fault r => exact nomatch r
    | refused r =>
      rw [State.run_succ_refused _ hs] at h; exact nomatch h

/-- An invariant that every step keeps holds after any run. -/
theorem State.run_induction {P : State → Prop} (hstep : ∀ s t, P s → step s = .next t → P t) {s t : State} {n : Nat}
    (hs : P s) (h : s.run n = .next t) : P t := by
  induction n generalizing s with
  | zero => exact Host.Outcome.next.inj h ▸ hs
  | succ n ih =>
    cases hs' : step s with
    | next u =>
      rw [State.run_succ _ hs'] at h
      exact ih (hstep _ _ hs hs') h
    | fault r => exact nomatch r
    | refused r =>
      rw [State.run_succ_refused _ hs'] at h; exact nomatch h

end Sys2Proof.Machine
end

