-- ==== Sys2Proof/Laws/Values.lean ====
section
/-! SUPPORT. The values the ops compute: windows slot by slot, a shifted frame byte, the mappings. -/

namespace Sys2Proof.Machine

/-! ## Windows -/

@[simp] theorem winFilled_length {α : Type} (n : Nat) (v : α) : (winFilled n v).length = n := List.length_replicate

theorem mem_winFilled {α : Type} {n : Nat} {v x : α} (h : x ∈ winFilled n v) : x = v := List.eq_of_mem_replicate h

/-- The sum of a window filled with one value. -/
theorem winSumU_winFilled {m : Nat} (n : Nat) (v : BitVec m) : winSumU (winFilled n v) = n * v.toNat := by
  simp [winSumU, winFilled]

theorem winSumS_winFilled {m : Nat} (n : Nat) (v : BitVec m) : winSumS (winFilled n v) = n * v.toInt := by
  simp [winSumS, winFilled]

/-- A shift keeps the number of slots. -/
theorem winShifted_length {α : Type} {w : List α} (v : α) (h : w ≠ []) : (winShifted w v).length = w.length := by
  have := List.length_pos_of_ne_nil h
  simp only [winShifted, List.length_append, List.length_tail, List.length_singleton]
  omega

theorem mem_winShifted {α : Type} {w : List α} {v x : α} (h : x ∈ winShifted w v) : x ∈ w ∨ x = v := by
  rcases List.mem_append.mp h with h | h
  · exact .inl (List.mem_of_mem_tail h)
  · exact .inr (List.mem_singleton.mp h)

/-- After a shift each slot but the newest holds the next newer one's value. -/
theorem winShifted_getElem? {α : Type} {w : List α} {k : Nat} (v : α) (h : k + 1 < w.length) :
    (winShifted w v)[k]? = w[k + 1]? := by
  rw [winShifted, List.getElem?_append_left (by rw [List.length_tail]; omega), List.getElem?_tail]

/-- After a shift the newest slot holds the new value. -/
theorem winShifted_newest {α : Type} {w : List α} {k : Nat} (v : α) (h : k + 1 = w.length) :
    (winShifted w v)[k]? = some v := by
  have e : w.tail.length = k := by rw [List.length_tail]; omega
  rw [winShifted, ← e]
  exact List.getElem?_concat_length

/-- The sum of unsigned slots of at most `b` each. -/
theorem winSumU_le {n : Nat} {w : List (BitVec n)} {b : Nat} (h : ∀ v ∈ w, v.toNat ≤ b) : winSumU w ≤ w.length * b := by
  induction w with
  | nil => exact Nat.zero_le _
  | cons v w ih =>
    have := h v List.mem_cons_self
    have := ih fun x hx => h x (List.mem_cons_of_mem _ hx)
    simp only [winSumU, List.map_cons, List.sum_cons, List.length_cons, Nat.add_mul] at *
    omega

/-- The sum of two's complement slots between `a` and `b`. -/
theorem winSumS_mem {n : Nat} {w : List (BitVec n)} {a b : Int} (h : ∀ v ∈ w, a ≤ v.toInt ∧ v.toInt ≤ b) :
    w.length * a ≤ winSumS w ∧ winSumS w ≤ w.length * b := by
  induction w with
  | nil => simp [winSumS]
  | cons v w ih =>
    have := h v List.mem_cons_self
    have := ih fun x hx => h x (List.mem_cons_of_mem _ hx)
    simp only [winSumS, List.map_cons, List.sum_cons, List.length_cons, Nat.cast_add, Nat.cast_one, add_mul, one_mul] at *
    omega

/-! ## Frame and readings -/

@[simp] theorem frameShift_getElem (f : Vector Byte Config.FRAME_BYTES) (k : Nat) (b : Bool) (j : Nat)
    (h : j < Config.FRAME_BYTES) : (frameShift f k b)[j] = if j = k then shiftIn f[j] b else f[j] := by
  simp [frameShift]

/-- A shifted byte doubles, takes the bit and loses its most significant one. -/
theorem shiftIn_toNat (x : Byte) (b : Bool) : (shiftIn x b).toNat = (2 * x.toNat + b.toNat) % 256 := by
  revert x b; decide

/-- A byte's temperature fits its register (10_state.md R26). -/
@[simp] theorem tempTenths_toNat (b : Byte) : (tempTenths b).toNat = 18 * b.toNat + 320 := by
  have := b.isLt
  rw [tempTenths, BitVec.toNat_ofNat, Nat.mod_eq_of_lt (by omega)]

/-- This hardware's water mapping fits its register (10_state.md R28). -/
theorem waterMap_bounds (v : BitVec 10) : -1 ≤ waterMap .hardware v ∧ waterMap .hardware v ≤ 99 := by
  have := v.isLt
  simp only [waterMap, Params.hardware]
  omega

end Sys2Proof.Machine
end

