-- ==== Sys2Proof/Tests/Slice0.lean ====
section
/-! SUPPORT. The model's own tests: the well-formedness smoke test, a word of every op written out from
30_encoding.md R84, small steps with the results of 95_test_vectors.md, and for every obligation with hypotheses
a concrete state that meets them. -/

namespace Sys2Proof.Tests

open Sys2Proof Sys2Proof.Machine

/-! ## Well-formedness: one ill-formed word for each check of 30_encoding.md R85 (95_test_vectors.md L2) -/

theorem test_illegal_opcode_refused : illegalOpc 0x1C00 = true ∧ wellFormedWord 0x1C00 = false := by decide
theorem test_illegal_window_refused : illegalWindow 0x2300 = true ∧ wellFormedWord 0x2300 = false := by decide
theorem test_illegal_wait_refused : illegalWait 0xAE00 = true ∧ wellFormedWord 0xAE00 = false := by decide
theorem test_illegal_selector_refused : illegalSelector 0x0500 = true ∧ wellFormedWord 0x0500 = false := by decide
theorem test_illegal_immediate_refused : illegalImmediate 0x0401 = true ∧ wellFormedWord 0x0401 = false := by decide
theorem test_legal_words_accepted : wellFormedWord 0x2200 = true ∧ wellFormedWord 0xA8FF = true := by decide
theorem test_decoder_refuses_each :
    decode 0x1C00 = none ∧ decode 0x2300 = none ∧ decode 0xAE00 = none ∧ decode 0x0500 = none ∧
      decode 0x0401 = none ∧ decode 0xFFFF = none := by decide

/-! ## Decoding: the words of 30_encoding.md R84, bit by bit: opc, w, imm8 -/

theorem test_decode_decoder_ops :
    decode 0b000001_00_00000000 = some .dhtStart ∧ decode 0b000010_00_00000000 = some .dhtWake ∧
    decode 0b000011_00_00000000 = some .dhtRelease ∧ decode 0b000100_00_00000000 = some .dhtSample ∧
    decode 0b000101_00_00000000 = some .dhtCheck ∧ decode 0b000110_00_00000000 = some .dhtConvert := by decide
theorem test_decode_window_ops :
    decode 0b001000_00_00000000 = some (.winFill .hum) ∧ decode 0b001000_10_00000000 = some (.winFill .water) ∧
    decode 0b001001_10_00000000 = some (.winShift .water) ∧ decode 0b001001_01_00000000 = some (.winShift .temp) ∧
    decode 0b001010_01_00000000 = some (.winAvg .temp) ∧ decode 0b001010_00_00000000 = some (.winAvg .hum) := by decide
theorem test_decode_water_ops :
    decode 0b010000_00_00000000 = some .wlSample ∧ decode 0b010001_00_00000000 = some .wlEval := by decide
theorem test_decode_controller_ops :
    decode 0b011000_00_00000000 = some .dialRead ∧ decode 0b011001_00_00000000 = some .setLatch ∧
    decode 0b011010_00_00000000 = some .ctlFan ∧ decode 0b011011_00_00000000 = some .ctlRefill ∧
    decode 0b011100_00_00000000 = some .ctlEmpty ∧ decode 0b011101_00_00000000 = some .ctlCommit := by decide
theorem test_decode_timer_ops :
    decode 0b100000_00_00000000 = some .tmrStart ∧ decode 0b100001_00_00000000 = some .tmrStop ∧
    decode 0b100010_00_00000000 = some .tmrReset ∧ decode 0b100011_00_00000000 = some .tmrRestart := by decide
theorem test_decode_sequencing_ops :
    decode 0b101000_00_00101011 = some (.brNotElapsed 0x2B) ∧ decode 0b101001_00_00100011 = some (.brDecFail 0x23) ∧
    decode 0b101010_00_00010100 = some (.jmp 0x14) ∧ decode 0b101010_00_11111111 = some (.jmp 0xFF) ∧
    decode 0b101011_00_00000000 = some (.wait .poll) ∧ decode 0b101011_01_00000000 = some (.wait .retry) ∧
    decode 0b000000_00_00000000 = some .nop := by decide
/-- The words 30_encoding.md R90 works out. -/
theorem test_encode_worked_words :
    encode (.winShift .water) = 0x2600 ∧ encode (.brDecFail 0x23) = 0xA423 ∧ encode (.wait .retry) = 0xAD00 := by decide
theorem test_decodeTableWord :
    decodeTableWord 16 0xA02B = some (.brNotElapsed 0x2B) ∧ decodeTableWord 16 0x2300 = none := by decide

/-! ## Small steps: expected values from 95_test_vectors.md -/

/-- The state an op leaves, or `s` where it leaves none. -/
def after (i : Instr) (s : State) : State :=
  match exec i s with
  | .next t => t
  | _ => s

/-- The state one step leaves, or `s` where it leaves none. -/
def stepped (s : State) : State :=
  match step s with
  | .next t => t
  | _ => s

/-- Input levels free of reset: the line, the converter, the dial. -/
def pin (d : Bool) (a : BitVec 10) (v : BitVec 16) : PinIn := ⟨false, d, a, v, 0⟩

/-- The reset state with this step's input levels fixed. -/
def base (p : PinIn) : State := State.reset.withPins p

/-- Input levels of an uneventful step. -/
def idle : PinIn := pin true 512 500

theorem test_nop : (after .nop State.reset).upc = 1 := by decide
theorem test_dhtStart_first :
    let t := after .dhtStart { State.reset with bitcnt := 7, decTo := true, rdValid := true }
    t.dhtOe = true ∧ t.dhtO = false ∧ t.bitcnt = 0 ∧ t.decTo = false ∧ t.rdValid = true ∧ t.opE = 1 ∧ t.upc = 0 := by
  decide
theorem test_dhtStart_last :
    let t := after .dhtStart { State.reset with opE := 17999, dhtOe := true }
    t.opE = 0 ∧ t.upc = 1 ∧ t.dhtOe = true := by decide
theorem test_dhtWake_first :
    let t := after .dhtWake { State.reset with dhtOe := true, dhtO := false }
    t.dhtO = true ∧ t.opE = 1 := by decide
theorem test_dhtWake_last : (after .dhtWake { State.reset with opE := 39 }).upc = 1 := by decide
theorem test_dhtRelease :
    let t := after .dhtRelease { State.reset with dhtOe := true, decLast := false, decCnt := 9, decI := 3 }
    t.dhtOe = false ∧ t.dhtO = true ∧ t.decLast = true ∧ t.decCnt = 0 ∧ t.decI = 0 := by decide
/-- The end of transition 4 with count 20, a 1 bit (41_frame_decoder.md R117, example). -/
theorem test_dhtSample_bit :
    let t := after .dhtSample { base (pin false 0 0) with decI := 4, decCnt := 20, opE := 20 }
    t.decI = 5 ∧ t.decLast = false ∧ t.decCnt = 0 ∧ t.bitcnt = 1 ∧ t.frame[0] = 1 ∧ t.opE = 21 := by decide
/-- The 255th unchanged sample. -/
theorem test_dhtSample_timeout :
    let t := after .dhtSample { base (pin true 0 0) with decI := 4, decCnt := 254, opE := 254 }
    t.decCnt = 255 ∧ t.decTo = true ∧ t.upc = 1 ∧ t.opE = 0 ∧ t.bitcnt = 0 ∧ t.decI = 4 := by decide
/-- With another bit threshold (00_scope.md R11, 70_reset_and_hazards.md R273) a count of 20 is a 0 bit. -/
theorem test_params_threshold :
    let t := after .dhtSample { base (pin false 0 0) with par := { Params.hardware with bitThreshold := 26 }, decI := 4, decCnt := 20 }
    t.bitcnt = 1 ∧ t.frame[0] = 0 := by decide
/-- With three slots a reset step gives each window three slots, and a shift keeps three. -/
theorem test_params_slots :
    let p : Params := { Params.hardware with nWin := 3, tickPeriodMs := 500 }
    let t := stepped { base { rst := true, dhtI := true, adcVal := 0, setIn := 0, statIdx := 0 } with par := p }
    t.wHum = [0, 0, 0] ∧ t.tmrDur = 500 ∧ (after (.winShift .hum) { t with rdHum := 9 }).wHum = [0, 0, 9] := by decide
theorem test_params_legal : Params.hardware.Legal ∧ Params.hardware.firstDataIndex = 4 ∧
    Params.hardware.tAlarmUs = 3000000 ∧ Params.hardware.tPollUs = 100000 ∧ Params.hardware.tRetryUs = 2000000 := by decide
theorem test_dhtCheck_ok :
    let t := after .dhtCheck { State.reset with frame := #v[0x37, 0x00, 0x17, 0x00, 0x4E], bitcnt := 40, decTo := true }
    t.decStatus = .ok ∧ t.rdValid = true ∧ t.errTo = 0 ∧ t.errCk = 0 := by decide
/-- A wrong checksum counts, and a short frame is TIMEOUT whatever its checksum byte holds. -/
theorem test_dhtCheck_failures :
    let t := after .dhtCheck { State.reset with frame := #v[0x37, 0x00, 0x17, 0x00, 0x4F], bitcnt := 40 }
    let u := after .dhtCheck { State.reset with frame := #v[0x37, 0x00, 0x17, 0x00, 0x27], bitcnt := 39, rdValid := true }
    t.decStatus = .checksum ∧ t.rdValid = false ∧ t.errCk = 1 ∧
      u.decStatus = .timeout ∧ u.rdValid = false ∧ u.errTo = 1 ∧ u.errCk = 0 := by decide
theorem test_dhtConvert :
    let t := after .dhtConvert { State.reset with frame := #v[0x37, 0x00, 0x17, 0x00, 0x4E], rdValid := true }
    t.rdHum = 55 ∧ t.rdTemp10 = 734 := by decide
theorem test_dhtConvert_invalid :
    (after .dhtConvert { State.reset with frame := #v[0x37, 0, 0x17, 0, 0x4F], rdHum := 45, rdTemp10 := 716 }).rdHum = 45 := by
  decide
theorem test_winFill_hum : (after (.winFill .hum) { State.reset with rdHum := 50 }).wHum = List.replicate 14 50 := by decide
theorem test_winShift_water :
    let t := after (.winShift .water) { State.reset with wWater := List.replicate 14 10, wlMapped := 0xFF }
    t.wWater = List.replicate 13 10 ++ [0xFF] ∧ t.winSum .water = 129 := by decide
theorem test_winAvg_temp_largest :
    (after (.winAvg .temp) { State.reset with wTemp := List.replicate 14 4910 }).sumTemp.toNat = 68740 := by decide
theorem test_winAvg_water_smallest :
    (after (.winAvg .water) { State.reset with wWater := List.replicate 14 0xFF }).sumWater.toInt = -14 := by decide
theorem test_wlSample_512 :
    let t := after .wlSample (base (pin true 512 0))
    t.wlRaw = 512 ∧ t.wlMapped.toInt = 49 := by decide
theorem test_wlSample_0 : (after .wlSample (base (pin true 0 0))).wlMapped.toInt = -1 := by decide
theorem test_wlEval_boundary :
    (after .wlEval { State.reset with wWater := List.replicate 14 10 }).outOfWater = false ∧
      (after .wlEval { State.reset with wWater := List.replicate 14 9 }).outOfWater = true := by decide
theorem test_dialRead :
    let t := after .dialRead (base (pin true 0 0xFFFF))
    t.dial10 = 0xFFFF ∧ t.setHum10 = 0 := by decide
theorem test_setLatch : (after .setLatch { State.reset with dial10 := 500 }).setHum10 = 500 := by decide
theorem test_ctlFan_on : (after .ctlFan { State.reset with setHum10 := 500, sumHum := 671 }).fanOn = true := by decide
/-- Equality is not below; a setpoint under the tolerance turns the fan off. -/
theorem test_ctlFan_off :
    (after .ctlFan { State.reset with setHum10 := 500, sumHum := 672, fanOn := true }).fanOn = false ∧
      (after .ctlFan { State.reset with setHum10 := 10, sumHum := 0, fanOn := true }).fanOn = false := by decide
theorem test_ctlRefill : (after .ctlRefill { State.reset with led := true, lastOutOfWater := true }).led = false := by decide
theorem test_ctlEmpty_first :
    let t := after .ctlEmpty { State.reset with outOfWater := true, fanOn := true }
    t.fanOn = false ∧ t.led = true ∧ t.alm = true ∧ t.opE = 1 := by decide
theorem test_ctlEmpty_levels :
    let s : State := { State.reset with outOfWater := true, led := true, alm := true }
    (after .ctlEmpty { s with opE := 150000 }).alm = false ∧ (after .ctlEmpty { s with opE := 300000 }).alm = true ∧
      (after .ctlEmpty { s with opE := 2999999 }).upc = 1 := by decide
theorem test_ctlCommit : (after .ctlCommit { State.reset with outOfWater := true }).lastOutOfWater = true := by decide
theorem test_tmrStart :
    let t := after .tmrStart { State.reset with tmrAcc := 300, nowMs := 1000 }
    t.tmrStart = 1000 ∧ t.tmrRun = true ∧ { t with nowMs := 1200 }.elapsed = 500 := by decide
theorem test_tmrStop :
    let t := after .tmrStop { State.reset with tmrRun := true, tmrStart := 1000, nowMs := 1750 }
    t.tmrAcc = 750 ∧ t.tmrRun = false := by decide
theorem test_tmrReset :
    let t := after .tmrReset { State.reset with tmrRun := true, tmrAcc := 9, nowMs := 5000 }
    t.tmrAcc = 0 ∧ t.tmrStart = 5000 ∧ t.tmrRun = true := by decide
theorem test_tmrRestart :
    let t := after .tmrRestart { State.reset with tmrDur := 5, tmrAcc := 9, nowMs := 7000 }
    t.tmrDur = 2000 ∧ t.tmrStart = 7000 ∧ t.tmrAcc = 0 ∧
      { t with nowMs := 8999 }.isElapsed = false ∧ { t with nowMs := 9000 }.isElapsed = true := by decide
theorem test_elapsed_wraps :
    { State.reset with tmrRun := true, tmrStart := 0xFFFFFF00, nowMs := 0x10 }.elapsed = 272 := by decide
theorem test_brNotElapsed :
    let s : State := { State.reset with upc := 0x15, tmrRun := true }
    (after (.brNotElapsed 0x2B) { s with nowMs := 1999 }).upc = 0x2B ∧
      (after (.brNotElapsed 0x2B) { s with nowMs := 2000 }).upc = 0x16 := by decide
theorem test_brDecFail :
    (after (.brDecFail 0x23) { State.reset with upc := 0x20 }).upc = 0x23 ∧
      (after (.brDecFail 0x23) { State.reset with upc := 0x20, rdValid := true }).upc = 0x21 := by decide
theorem test_jmp : (after (.jmp 0x14) { State.reset with upc := 0x2C }).upc = 0x14 := by decide
theorem test_wait :
    (after (.wait .poll) State.reset).opE = 1 ∧ (after (.wait .poll) { State.reset with opE := 99999 }).upc = 1 ∧
      (after (.wait .retry) { State.reset with opE := 1999999 }).opE = 0 := by decide

/-- The first step from reset runs WL_SAMPLE; the second of program P6 meets the illegal word. -/
theorem test_step_from_reset :
    let t := stepped (base (pin true 700 500))
    t.wlRaw = 700 ∧ t.wlMapped.toInt = 67 ∧ t.upc = 1 ∧ t.tUs.val = 1 := by decide
theorem test_step_illegal_word :
    let s : State := { base idle with rom := romPut [] 1 0x1C00, upc := 1, fanOn := true, dhtOe := true }
    (stepped s).faulted = true ∧ (stepped s).upc = 1 ∧ (stepped s).fanOn = false ∧ (stepped s).dhtOe = false ∧
      (stepped s).statusRead 0x01 = 0xC00 := by decide
theorem test_withFetchWord :
    ((State.reset.withFetchWord 16 0xA814).fetch = some (.jmp 0x14)) ∧
      (stepped (State.reset.withFetchWord 16 0xA814)).upc = 0x14 := by decide
/-- Program P1's end state in the status view (95_test_vectors.md). -/
theorem test_status_of_P1 :
    let s : State := { State.reset with
      upc := 0x14, rdValid := true, decStatus := .ok, tmrRun := true, rdHum := 55, rdTemp10 := 734, decI := 84
      frame := #v[0x37, 0x00, 0x17, 0x00, 0x4E], bitcnt := 40, decTo := true, decCnt := 255, wlRaw := 512, wlMapped := 49 }
    s.statusRead 0x01 = 0x560 ∧ s.statusRead 0x07 = 0x02DE0037 ∧ s.statusRead 0x08 = 0x00170037 ∧
      s.statusRead 0x09 = 0x0001284E ∧ s.statusRead 0x0C = 0x00310200 ∧ s.statusRead 0x11 = 0x14 ∧
      s.statusRead 0x12 = 0x0001FF54 := by decide
/-- The codes 2 and 3 of `dec_status` in bits 7:6 of `CTRL` (10_state.md R35, R47), beside bit 10, `dht_o`. -/
theorem test_status_codes :
    ({ State.reset with decStatus := .timeout } : State).statusRead 0x01 = 0x480 ∧
      ({ State.reset with decStatus := .checksum } : State).statusRead 0x01 = 0x4C0 := by decide
/-- The line carries `dht_o` while driven and the sensor's level once released (10_state.md R22). -/
theorem test_data_line :
    ({ base (pin true 0 0) with dhtOe := true, dhtO := false } : State).dataLine = false ∧
      ({ base (pin false 0 0) with dhtOe := true, dhtO := true } : State).dataLine = true ∧
      (base (pin false 0 0)).dataLine = false ∧ (base (pin true 0 0)).dataLine = true := by decide
/-- `adc_rd` is 1 in the WL_SAMPLE step only (95_test_vectors.md): at 0x17, not at 0x18, nor in a reset step. -/
theorem test_adc_rd :
    ({ base idle with upc := 0x17 } : State).adcRd = true ∧ ({ base idle with upc := 0x18 } : State).adcRd = false ∧
      ({ base { idle with rst := true } with upc := 0x17 } : State).adcRd = false := by decide
theorem test_status_at_reset :
    State.reset.statusRead 0x00 = 0x44485431 ∧ State.reset.statusRead 0x0D = 2000 ∧
      State.reset.statusRead 0x12 = 0x00010000 ∧ State.reset.statusRead 0x13 = 0 ∧ State.reset.statusRead 0x2E = 0 ∧
      State.reset.statusRead 0xFF = 0 := by decide

/-! ## Witnesses: states that meet the hypotheses of the obligations -/

/-- A state of the normative ROM with the same input levels fixed for `n` steps. -/
def held (n : Nat) (p : PinIn) (s : State) : State := { s with script := List.replicate n p }

theorem held_noReset {n : Nat} {p : PinIn} (s : State) (h : p.rst = false) : NoReset (held n p s) n :=
  noReset_replicate s n h

theorem witness_EncodeOfDecode : decode 0x2600 = some (.winShift .water) := by decide

theorem witness_StepRunsTheFetchedOp :
    (base idle).pins.rst = false ∧ (base idle).faulted = false ∧
      decode (romWord (base idle).rom (base idle).upc) = some .wlSample := by decide

theorem witness_ResetStep : (base { idle with rst := true }).pins.rst = true := by decide

/-- A faulted state in which reset stays away for three steps. -/
def faultedState : State :=
  held 3 idle { State.reset with faulted := true, upc := 1, rom := romPut [] 1 0x1C00 }

theorem witness_FaultState : NoReset faultedState 3 ∧ faultedState.faulted = true := ⟨held_noReset _ rfl, rfl⟩

theorem witness_IllegalWord :
    let s : State := { base idle with rom := romPut [] 0 0x2300 }
    s.pins.rst = false ∧ s.faulted = false ∧ illegalWord (romWord s.rom s.upc) = true := by decide

/-- Three steps from the wrap of both time counters. -/
theorem witness_RunOfSteps :
    ∃ t, NoReset (held 3 idle { State.reset with tUs := 999, nowMs := 0xFFFFFFFF }) 3 ∧
      (held 3 idle { State.reset with tUs := 999, nowMs := 0xFFFFFFFF }).run 3 = .next t :=
  ⟨_, held_noReset _ rfl, rfl⟩

/-- Its second clause, from zero. -/
theorem witness_RunOfSteps_zero :
    ∃ t, NoReset (held 3 idle State.reset) 3 ∧ (held 3 idle State.reset).run 3 = .next t ∧
      (held 3 idle State.reset).stepCount = 0 := ⟨_, held_noReset _ rfl, rfl, rfl⟩

/-- The statements about what an op leaves alone: a next state of an op that none of their exceptions name. -/
theorem witness_writers :
    ∃ t, exec (.winAvg .temp) State.reset = .next t ∧ Instr.winAvg .temp ≠ .dhtStart ∧ Instr.winAvg .temp ≠ .dhtWake ∧
      Instr.winAvg .temp ≠ .dhtRelease ∧ Instr.winAvg .temp ≠ .dhtSample ∧ Instr.winAvg .temp ≠ .dhtCheck ∧
      Instr.winAvg .temp ≠ .dhtConvert ∧ Instr.winAvg .temp ≠ .ctlFan ∧ Instr.winAvg .temp ≠ .ctlEmpty ∧
      Instr.winAvg .temp ≠ .wlEval ∧ Instr.winAvg .temp ≠ .ctlCommit ∧ Instr.winAvg .temp ≠ .setLatch ∧
      Instr.winAvg .temp ≠ .dialRead ∧ Instr.winAvg .temp ≠ .ctlRefill ∧ Instr.winAvg .temp ≠ .wlSample ∧
      Instr.winAvg .temp ≠ .winFill .temp ∧ Instr.winAvg .temp ≠ .winShift .temp ∧ Instr.winAvg .temp ≠ .winAvg .hum ∧
      Instr.winAvg .temp ≠ .tmrStart ∧ Instr.winAvg .temp ≠ .tmrStop ∧ Instr.winAvg .temp ≠ .tmrReset ∧
      Instr.winAvg .temp ≠ .tmrRestart :=
  ⟨_, rfl, by decide⟩

/-- The counters at the last values that still fit. -/
theorem witness_counters_fit :
    let s : State := { State.reset with opE := 0xFFFFFFFE }
    s.opE.toNat + 1 < 2 ^ 32 := by decide

/-- This hardware's parameters fit every register, and so do a mapping and the sums at reset. -/
theorem witness_values_fit :
    State.reset.par = .hardware ∧ State.reset.par.tickPeriodMs < 2 ^ 32 ∧ 1 ≤ State.reset.par.tickPeriodMs ∧
      State.reset.par.timeoutCount ≤ 255 ∧ (State.reset.wHum.map BitVec.toNat).sum < 2 ^ 12 ∧
      State.reset.wHum.length ≤ 14 ∧ (State.reset.wTemp.map BitVec.toNat).sum < 2 ^ 17 ∧ State.reset.wTemp.length ≤ 14 ∧
      -2048 ≤ (State.reset.wWater.map BitVec.toInt).sum ∧ (State.reset.wWater.map BitVec.toInt).sum ≤ 2047 ∧
      State.reset.wWater.length ≤ 14 ∧ -128 ≤ waterMap State.reset.par 0 ∧ waterMap State.reset.par 1023 ≤ 127 := by decide

theorem witness_SampleSame :
    let s : State := { base (pin true 0 0) with decCnt := 254, opE := 254 }
    s.pins.dhtI = s.decLast ∧ s.decCnt.toNat ≤ 254 ∧ s.opE.toNat + 1 < 2 ^ 32 := by decide

theorem witness_SampleChange :
    let s : State := { base (pin false 0 0) with decI := 84, decCnt := 17, bitcnt := 39 }
    s.pins.dhtI ≠ s.decLast ∧ s.decI.toNat < 127 ∧ 3 ≤ s.decI.toNat ∧ s.decI.toNat % 2 = 0 ∧ s.opE.toNat + 1 < 2 ^ 32 := by
  decide

/-- The state before shift `k` of window HUM, of window TEMP and of window WATER, with source `k`. -/
def shifts (w : Win) : Nat → State
  | 0 => State.reset
  | k + 1 =>
    match w with
    | .hum => after (.winShift .hum) { shifts w k with rdHum := BitVec.ofNat 8 k }
    | .temp => after (.winShift .temp) { shifts w k with rdTemp10 := BitVec.ofNat 13 k }
    | .water => after (.winShift .water) { shifts w k with wlMapped := BitVec.ofNat 8 k }

theorem witness_FourteenShifts_hum : (shifts .hum 0).wHum.length = 14 ∧ ∀ k,
    exec (.winShift .hum) { shifts .hum k with rdHum := BitVec.ofNat 8 k } = .next (shifts .hum (k + 1)) :=
  ⟨rfl, fun _ => rfl⟩
theorem witness_FourteenShifts_temp : (shifts .temp 0).wTemp.length = 14 ∧ ∀ k,
    exec (.winShift .temp) { shifts .temp k with rdTemp10 := BitVec.ofNat 13 k } = .next (shifts .temp (k + 1)) :=
  ⟨rfl, fun _ => rfl⟩
theorem witness_FourteenShifts_water : (shifts .water 0).wWater.length = 14 ∧ ∀ k,
    exec (.winShift .water) { shifts .water k with wlMapped := BitVec.ofNat 8 k } = .next (shifts .water (k + 1)) :=
  ⟨rfl, fun _ => rfl⟩

/-- Windows of `N_WIN` slots, for this hardware's parameters and for one slot. -/
theorem witness_WinShift :
    WindowsOk State.reset ∧
      WindowsOk { State.reset with par := { Params.hardware with nWin := 1 }, wHum := [7], wTemp := [7], wWater := [7] } :=
  ⟨⟨by decide, rfl, rfl, rfl⟩, ⟨by decide, rfl, rfl, rfl⟩⟩
theorem witness_AverageAfterFill : State.reset.par.nWin ≤ 14 := by decide

theorem witness_WlEval : State.reset.par = .hardware ∧ State.reset.wWater = List.replicate 14 0 := by decide

theorem witness_CtlEmpty :
    (¬(State.reset.outOfWater = true ∧ State.reset.lastOutOfWater = false)) ∧
      ({ State.reset with outOfWater := true }.outOfWater = true ∧
        { State.reset with outOfWater := true }.lastOutOfWater = false) := by decide

theorem witness_TimerOps :
    ∃ t u v w, exec .tmrStop { State.reset with tmrRun := true, nowMs := 9 } = .next t ∧
      exec .tmrStart { State.reset with tmrAcc := 5, nowMs := 9 } = .next u ∧
      exec .tmrReset { State.reset with tmrRun := true, nowMs := 9 } = .next v ∧
      exec .tmrRestart { State.reset with tmrAcc := 5, nowMs := 9 } = .next w := ⟨_, _, _, _, rfl, rfl, rfl, rfl⟩

/-- 272 ms across the wrap, and the largest elapsed time. -/
theorem witness_ElapsedAcrossTheWrap :
    let s : State := { State.reset with tmrRun := true, tmrStart := 0xFFFFFF00, nowMs := 0x10 }
    let u : State := { State.reset with tmrRun := true, tmrStart := 1, nowMs := 0 }
    (272 < 2 ^ 32 ∧ s.tmrRun = true ∧ s.tmrAcc = 0 ∧ s.nowMs.toNat = (s.tmrStart.toNat + 272) % 2 ^ 32) ∧
      (2 ^ 32 - 1 < 2 ^ 32 ∧ u.tmrRun = true ∧ u.tmrAcc = 0 ∧ u.nowMs.toNat = (u.tmrStart.toNat + (2 ^ 32 - 1)) % 2 ^ 32) := by
  decide

theorem witness_Handshake :
    let s := held 18041 idle { State.reset with upc := 5 }
    s.par = .hardware ∧ NoReset s 18041 ∧ AtOp s .dhtStart ∧ s.opE = 0 ∧ decode (romWord s.rom (s.upc + 1)) = some .dhtWake ∧
      decode (romWord s.rom (s.upc + 2)) = some .dhtRelease :=
  ⟨rfl, held_noReset _ rfl, ⟨rfl, rfl⟩, rfl, rfl, rfl⟩

theorem witness_Wait_poll :
    let s := held 100000 idle { State.reset with upc := 0x2B }
    s.par = .hardware ∧ NoReset s 100000 ∧ AtOp s (.wait .poll) ∧ s.opE = 0 := ⟨rfl, held_noReset _ rfl, ⟨rfl, rfl⟩, rfl⟩
theorem witness_Wait_retry :
    let s := held 2000000 idle { State.reset with upc := 0x12 }
    s.par = .hardware ∧ NoReset s 2000000 ∧ AtOp s (.wait .retry) ∧ s.opE = 0 := ⟨rfl, held_noReset _ rfl, ⟨rfl, rfl⟩, rfl⟩

theorem witness_Alarm :
    let s := held 3000000 idle { State.reset with upc := 0x28, outOfWater := true, fanOn := true }
    s.par = .hardware ∧ NoReset s 3000000 ∧ AtOp s .ctlEmpty ∧ s.outOfWater = true ∧ s.lastOutOfWater = false ∧ s.opE = 0 :=
  ⟨rfl, held_noReset _ rfl, ⟨rfl, rfl⟩, rfl, rfl, rfl⟩

/-- For both statements about how long sampling takes and how many bits it leaves. -/
theorem witness_Sampling :
    let s := held 21675 idle { State.reset with upc := 0x1D }
    s.par = .hardware ∧ NoReset s 21675 ∧ AtOp s .dhtSample ∧ s.opE = 0 ∧ s.decI = 0 ∧ s.decCnt = 0 ∧ s.bitcnt = 0 ∧ s.decTo = false :=
  ⟨rfl, held_noReset _ rfl, ⟨rfl, rfl⟩, rfl, rfl, rfl, rfl, rfl⟩

/-- The line of `PulseTrainBecomesTheFrame` for given counts. -/
def trainLine (c : Nat → Nat) : List Bool :=
  (List.range 84).flatMap (fun i => List.replicate (c i) (i % 2 == 0) ++ [i % 2 == 1]) ++ List.replicate 255 true

/-- A state before DHT_SAMPLE with that line on the pin. -/
def trainState (c : Nat → Nat) : State :=
  { State.reset with upc := 8, script := (trainLine c).map fun b => pin b 512 500 }

/-- Its pin carries the line, and reset stays away, whatever the counts. -/
theorem train_pins (c : Nat → Nat) :
    NoReset (trainState c) (trainLine c).length ∧
      ∀ k < (trainLine c).length, ((trainState c).pinsAt k).dhtI = (trainLine c).getD k true := by
  refine ⟨fun k hk => ?_, fun k hk => ?_⟩ <;>
    simp [trainState, State.pinsAt, hk, pin]

/-- Counts of 10, 17 and 254 among the transitions. -/
def someCounts (i : Nat) : Nat := if i % 3 = 0 then 10 else if i % 3 = 1 then 17 else 254

theorem witness_PulseTrain :
    (trainState someCounts).par = .hardware ∧ (∀ i < 84, someCounts i ≤ 254) ∧ AtOp (trainState someCounts) .dhtSample ∧ (trainState someCounts).opE = 0 ∧
      (trainState someCounts).decI = 0 ∧ (trainState someCounts).decCnt = 0 ∧ (trainState someCounts).decLast = true ∧
      (trainState someCounts).bitcnt = 0 ∧ (trainState someCounts).decTo = false ∧
      NoReset (trainState someCounts) (trainLine someCounts).length ∧
      ∀ k < (trainLine someCounts).length,
        ((trainState someCounts).pinsAt k).dhtI = (trainLine someCounts).getD k true :=
  ⟨rfl, by decide, ⟨rfl, rfl⟩, rfl, rfl, rfl, rfl, rfl, rfl, (train_pins _).1, (train_pins _).2⟩

/-- A tick's CTL_FAN reached with the water state `o` and the one before it `l`, reset away for as long as the four
ops take in that row. -/
def tickState (o l : Bool) : State :=
  held (if o && !l then 3000003 else 4) idle
    { State.reset with upc := 0x26, outOfWater := o, lastOutOfWater := l, led := l, sumHum := 670, setHum10 := 500 }

/-- What `TickControlTable` asks of a state. -/
def tickHypotheses (s : State) : Prop :=
  s.par = .hardware ∧ NoReset s (if s.outOfWater && !s.lastOutOfWater then 3000003 else 4) ∧ AtOp s .ctlFan ∧ s.opE = 0 ∧
    decode (romWord s.rom (s.upc + 1)) = some .ctlRefill ∧ decode (romWord s.rom (s.upc + 2)) = some .ctlEmpty ∧
    decode (romWord s.rom (s.upc + 3)) = some .ctlCommit

theorem witness_TickControlTable_water_water : tickHypotheses (tickState false false) :=
  ⟨rfl, held_noReset _ rfl, ⟨rfl, rfl⟩, rfl, rfl, rfl, rfl⟩
theorem witness_TickControlTable_refill : tickHypotheses (tickState false true) :=
  ⟨rfl, held_noReset _ rfl, ⟨rfl, rfl⟩, rfl, rfl, rfl, rfl⟩
theorem witness_TickControlTable_empty : tickHypotheses (tickState true false) :=
  ⟨rfl, held_noReset _ rfl, ⟨rfl, rfl⟩, rfl, rfl, rfl, rfl⟩
theorem witness_TickControlTable_stays_empty : tickHypotheses (tickState true true) :=
  ⟨rfl, held_noReset _ rfl, ⟨rfl, rfl⟩, rfl, rfl, rfl, rfl⟩

theorem witness_PollingPass :
    let s := held 100003 idle { State.reset with upc := 0x14, tmrRun := true }
    s.par = .hardware ∧ NoReset s 100003 ∧ NormativeRom s ∧ s.faulted = false ∧ s.upc = 0x14 ∧ s.opE = 0 ∧
      ∀ u, s.run 1 = .next u → u.isElapsed = false := by
  refine ⟨rfl, held_noReset _ rfl, rfl, rfl, rfl, rfl, fun u hu => ?_⟩
  rw [← Host.Outcome.next.inj hu]
  decide

/-! Each invariant is met by a state it says something about, which takes a step. -/

/-- Inside a tick's DHT_START, the line driven low. -/
def inHandshake : State := { base idle with upc := 0x1A, opE := 5, dhtOe := true, dhtO := false }

theorem witness_InProgram : InProgram inHandshake ∧ ∃ t, step inHandshake = .next t := by
  exact ⟨⟨rfl, rfl, by decide⟩, _, rfl⟩
theorem witness_CountersOk : CountersOk inHandshake ∧ ∃ t, step inHandshake = .next t := by
  refine ⟨⟨witness_InProgram.1, rfl, by decide, by decide, by decide, fun _ => ⟨rfl, rfl⟩,
    fun h => absurd h (by decide)⟩, _, rfl⟩

/-- Inside a tick's DHT_SAMPLE, in the last step that transition 84 can take: 40 bits, 254 samples alike. -/
def inSampling : State := { base idle with upc := 0x1D, opE := 21674, decI := 84, decCnt := 254, bitcnt := 40 }

theorem witness_CountersOk_sampling : CountersOk inSampling ∧ ∃ t, step inSampling = .next t :=
  ⟨⟨⟨rfl, rfl, by decide⟩, rfl, by decide, by decide, by decide, fun h => absurd h (by decide), fun _ => by decide⟩, _, rfl⟩
theorem witness_LineDriveOk : LineDriveOk inHandshake ∧ inHandshake.dhtOe = true ∧ ∃ t, step inHandshake = .next t :=
  ⟨⟨witness_CountersOk.1, fun _ => by decide⟩, rfl, _, rfl⟩

/-- Inside the alarm, the pin high. -/
def inAlarm : State := { base idle with upc := 0x28, opE := 7, outOfWater := true, led := true, alm := true }

theorem witness_ControlOk : ControlOk inAlarm ∧ inAlarm.alm = true ∧ ∃ t, step inAlarm = .next t := by
  refine ⟨⟨⟨⟨rfl, rfl, by decide⟩, rfl, by decide, by decide, by decide, fun h => absurd h (by decide),
      fun h => absurd h (by decide)⟩,
    fun h => absurd h (by decide), fun _ _ _ => rfl, fun _ _ => ⟨rfl, rfl, rfl⟩, fun h => absurd h (by decide),
    fun _ => by decide, fun h => absurd h (by decide)⟩, rfl, _, rfl⟩

theorem witness_RangesOk :
    let s : State := { base idle with rdTemp10 := 4910, wlMapped := 0xFF, wTemp := List.replicate 14 4910 }
    RangesOk s ∧ ∃ t, step s = .next t :=
  ⟨⟨⟨by decide, rfl, rfl, rfl⟩, by decide⟩, _, rfl⟩

theorem witness_FaultSafe : FaultSafe faultedState ∧ faultedState.faulted = true ∧ ∃ t, step faultedState = .next t :=
  ⟨fun _ => by decide, rfl, _, rfl⟩

/-- The first and the last slot of each window, and an index just past one. -/
theorem witness_StatusView :
    (State.reset.wHum[0]? = some 0 ∧ State.reset.wHum[13]? = some 0 ∧ State.reset.wTemp[0]? = some 0 ∧
      State.reset.wTemp[13]? = some 0 ∧ State.reset.wWater[0]? = some 0 ∧ State.reset.wWater[13]? = some 0) ∧
    (∀ k < 14, (0x2E : BitVec 8).toNat ≠ 0x20 + k ∧ (0x2E : BitVec 8).toNat ≠ 0x30 + k ∧
      (0x2E : BitVec 8).toNat ≠ 0x40 + k) ∧ 0x13 ≤ (0x2E : BitVec 8).toNat := by decide

end Sys2Proof.Tests
end

/-! PROOFS. The reset state of 10_state.md R45, and the status view of R46 and R47 word by word. -/

namespace Sys2Proof.Machine

/-! ## The entry point (10_state.md R45) -/

/-- The normative ROM starts with WL_SAMPLE (45_timer_sequencer.md R215). -/
theorem State.reset_fetch : State.reset.fetch = some .wlSample := by
  have hword : State.reset.fetchWord = 0x4000 := romWord_normative 0
  rw [State.fetch, hword]
  decide

/-! ## A status word as the sum of its fields

R46 gives a word as fields at bit places, the model as an append of fields and zeros; on naturals a field at
bit `n` is its value times `2 ^ n`. -/

theorem toNat_append_eq_add {m n : Nat} (x : BitVec m) (y : BitVec n) :
    (x ++ y).toNat = x.toNat * 2 ^ n + y.toNat := by
  rw [BitVec.toNat_append, ← Nat.shiftLeft_add_eq_or_of_lt y.isLt, Nat.shiftLeft_eq]

/-- `CTRL` (R47). -/
theorem State.ctrlWord_toNat (s : State) :
    s.ctrlWord.toNat =
      s.fanOn.toNat + 2 * s.outOfWater.toNat + 4 * s.lastOutOfWater.toNat + 8 * s.led.toNat + 16 * s.alm.toNat +
      32 * s.rdValid.toNat + 64 * s.decStatus.code.toNat + 256 * s.tmrRun.toNat + 512 * s.dhtOe.toNat +
      1024 * s.dhtO.toNat + 2048 * s.faulted.toNat := by
  rw [State.ctrlWord, BitVec.toNat_setWidth_of_le (by decide)]
  simp only [toNat_append_eq_add, BitVec.toNat_ofBool]
  omega

/-- `READING` (R46). -/
theorem State.readingWord_toNat (s : State) :
    s.readingWord.toNat = s.rdHum.toNat + 65536 * s.rdTemp10.toNat := by
  simp only [State.readingWord, toNat_append_eq_add, BitVec.toNat_ofNat]
  omega

/-- `FRAME_LO` (R46; 20_memory.md R67). -/
theorem State.frameLoWord_toNat (s : State) :
    s.frameLoWord.toNat =
      s.frame[0].toNat + 256 * s.frame[1].toNat + 65536 * s.frame[2].toNat + 16777216 * s.frame[3].toNat := by
  simp only [State.frameLoWord, toNat_append_eq_add]
  omega

/-- `FRAME_HI` (R46). -/
theorem State.frameHiWord_toNat (s : State) :
    s.frameHiWord.toNat = s.frame[4].toNat + 256 * s.bitcnt.toNat + 65536 * s.decTo.toNat := by
  simp only [State.frameHiWord, toNat_append_eq_add, BitVec.toNat_ofNat, BitVec.toNat_ofBool]
  omega

/-- `WATER` (R46): the mapping as its 8 bits of two's complement. -/
theorem State.waterWord_toNat (s : State) :
    s.waterWord.toNat = s.wlRaw.toNat + 65536 * s.wlMapped.toNat := by
  simp only [State.waterWord, toNat_append_eq_add, BitVec.toNat_ofNat]
  omega

/-- `SEQ` (R46): `op_e` shows its low 24 bits only. -/
theorem State.seqWord_toNat (s : State) :
    s.seqWord.toNat = s.upc.toNat + 256 * (s.opE.toNat % 16777216) := by
  simp only [State.seqWord, toNat_append_eq_add, BitVec.extractLsb'_toNat, Nat.shiftRight_zero]
  omega

/-- `DECODER` (R46). -/
theorem State.decoderWord_toNat (s : State) :
    s.decoderWord.toNat = s.decI.toNat + 256 * s.decCnt.toNat + 65536 * s.decLast.toNat := by
  simp only [State.decoderWord, toNat_append_eq_add, BitVec.toNat_ofNat, BitVec.toNat_ofBool]
  omega

/-! ## The status view below 0x13: which word stands at which index (10_state.md R46) -/

@[simp] theorem State.statusRead_id (s : State) : s.statusRead 0x00 = statId := rfl
@[simp] theorem State.statusRead_ctrl (s : State) : s.statusRead 0x01 = s.ctrlWord := rfl
@[simp] theorem State.statusRead_setHum (s : State) : s.statusRead 0x02 = s.setHum10.setWidth 32 := rfl
@[simp] theorem State.statusRead_dial (s : State) : s.statusRead 0x03 = s.dial10.setWidth 32 := rfl
@[simp] theorem State.statusRead_sumHum (s : State) : s.statusRead 0x04 = s.sumHum.setWidth 32 := rfl
@[simp] theorem State.statusRead_sumTemp (s : State) : s.statusRead 0x05 = s.sumTemp.setWidth 32 := rfl
@[simp] theorem State.statusRead_sumWater (s : State) : s.statusRead 0x06 = s.sumWater.signExtend 32 := rfl
@[simp] theorem State.statusRead_reading (s : State) : s.statusRead 0x07 = s.readingWord := rfl
@[simp] theorem State.statusRead_frameLo (s : State) : s.statusRead 0x08 = s.frameLoWord := rfl
@[simp] theorem State.statusRead_frameHi (s : State) : s.statusRead 0x09 = s.frameHiWord := rfl
@[simp] theorem State.statusRead_errTo (s : State) : s.statusRead 0x0A = s.errTo := rfl
@[simp] theorem State.statusRead_errCk (s : State) : s.statusRead 0x0B = s.errCk := rfl
@[simp] theorem State.statusRead_water (s : State) : s.statusRead 0x0C = s.waterWord := rfl
@[simp] theorem State.statusRead_tmrDur (s : State) : s.statusRead 0x0D = s.tmrDur := rfl
@[simp] theorem State.statusRead_tmrStart (s : State) : s.statusRead 0x0E = s.tmrStart := rfl
@[simp] theorem State.statusRead_tmrAcc (s : State) : s.statusRead 0x0F = s.tmrAcc := rfl
@[simp] theorem State.statusRead_nowMs (s : State) : s.statusRead 0x10 = s.nowMs := rfl
@[simp] theorem State.statusRead_seq (s : State) : s.statusRead 0x11 = s.seqWord := rfl
@[simp] theorem State.statusRead_decoder (s : State) : s.statusRead 0x12 = s.decoderWord := rfl

/-- `CTRL` at reset: every field of R47 is 0 by R45 but `dht_o`, which is bit 10. -/
theorem State.reset_ctrlWord : State.reset.ctrlWord = 0x00000400 := by
  apply BitVec.eq_of_toNat_eq
  rw [State.ctrlWord_toNat]
  decide

/-! ## The obligations -/

/-- Settles O58: each index holds its word (`statusRead_…`), and each word is the sum of its fields at their places
(`…Word_toNat`). -/
theorem statusWordsShowTheRegisters : Obligations.StatusWordsShowTheRegisters := by
  refine ⟨State.reset_ctrlWord, ⟨rfl, rfl, rfl, rfl⟩, fun s => ⟨⟨s.statusRead_id, ?ctrl⟩,
    ⟨?setHum, ?dial, ?sumHum, ?sumTemp, ?sumWater⟩, ⟨?reading, ?frameLo, ?frameHi⟩,
    ⟨s.statusRead_errTo, s.statusRead_errCk, ?water, s.statusRead_tmrDur, s.statusRead_tmrStart, s.statusRead_tmrAcc,
      s.statusRead_nowMs⟩, ?seq, ?decoder⟩⟩
  case ctrl => rw [State.statusRead_ctrl, State.ctrlWord_toNat]
  case setHum => rw [State.statusRead_setHum, BitVec.toNat_setWidth_of_le (by decide)]
  case dial => rw [State.statusRead_dial, BitVec.toNat_setWidth_of_le (by decide)]
  case sumHum => rw [State.statusRead_sumHum, BitVec.toNat_setWidth_of_le (by decide)]
  case sumTemp => rw [State.statusRead_sumTemp, BitVec.toNat_setWidth_of_le (by decide)]
  case sumWater => rw [State.statusRead_sumWater, BitVec.toInt_signExtend_of_le (by decide)]
  case reading => rw [State.statusRead_reading, State.readingWord_toNat]
  case frameLo => rw [State.statusRead_frameLo, State.frameLoWord_toNat]
  case frameHi => rw [State.statusRead_frameHi, State.frameHiWord_toNat]
  case water => rw [State.statusRead_water, State.waterWord_toNat]
  case seq => rw [State.statusRead_seq, State.seqWord_toNat]
  case decoder => rw [State.statusRead_decoder, State.decoderWord_toNat]

/-- Settles O8: R45's table in its three parts, and the entry point read from the normative ROM. -/
theorem resetValuesAreTheTable : Obligations.ResetValuesAreTheTable :=
  ⟨by decide, by decide, by decide, State.reset_fetch⟩

end Sys2Proof.Machine

/-! PROOFS. The end of a transition and its bit (41_frame_decoder.md R117 to R120), the check of a frame (R124 to
R126) and its conversion to a reading (R128). -/

namespace Sys2Proof.Machine

/-! ## The tests of the decoder as arithmetic -/

theorem carriesBit_iff (p : Params) (i : Nat) : carriesBit p i = true ↔ p.headerTransitions ≤ i ∧ i % 2 = 0 := by
  simp [carriesBit]

/-- The bit a count carries, as the number R120 adds to the shifted byte. -/
theorem bitOfCount_toNat (p : Params) (c : Nat) : (bitOfCount p c).toNat = if p.bitThreshold < c then 1 else 0 := by
  by_cases h : p.bitThreshold < c <;> simp [bitOfCount, h]

theorem frameChecksum_toNat (f : Vector Byte Config.FRAME_BYTES) :
    (frameChecksum f).toNat = (f[0].toNat + f[1].toNat + f[2].toNat + f[3].toNat) % 256 :=
  BitVec.toNat_ofNat _ _

theorem checksumOk_iff (f : Vector Byte Config.FRAME_BYTES) :
    checksumOk f = true ↔ f[4].toNat = (f[0].toNat + f[1].toNat + f[2].toNat + f[3].toNat) % 256 := by
  rw [checksumOk, beq_iff_eq, ← BitVec.toNat_inj, frameChecksum_toNat]

/-! ## `Classify` (R119, R120) -/

/-- The bit count stops at 63, so it always fits its register. -/
theorem State.classify_bitcnt_toNat (s : State) (c : Nat) :
    (s.classify c).bitcnt.toNat = min (s.bitcnt.toNat + 1) 63 :=
  (BitVec.toNat_ofNat _ _).trans (Nat.mod_eq_of_lt (Nat.lt_of_le_of_lt (Nat.min_le_right _ 63) (by decide)))

/-- Of the frame's bytes only number `bitcnt` div 8 takes the bit, and none does once 40 bits are counted. -/
theorem State.classify_frame_toNat (s : State) (c : Nat) (k : Fin 5) :
    (s.classify c).frame[k].toNat =
      if s.bitcnt.toNat < 40 ∧ k.val = s.bitcnt.toNat / 8 then
        (2 * s.frame[k].toNat + (if s.par.bitThreshold < c then 1 else 0)) % 256
      else s.frame[k].toNat := by
  by_cases hroom : s.bitcnt.toNat < 40
  · have hframe : (s.classify c).frame = frameShift s.frame (s.bitcnt.toNat / 8) (bitOfCount s.par c) := if_pos hroom
    by_cases hbyte : k.val = s.bitcnt.toNat / 8
    · rw [if_pos ⟨hroom, hbyte⟩, hframe, Fin.getElem_fin, frameShift_getElem, if_pos hbyte, shiftIn_toNat,
        bitOfCount_toNat, Fin.getElem_fin]
    · rw [if_neg fun h => hbyte h.2, hframe, Fin.getElem_fin, frameShift_getElem, if_neg hbyte, Fin.getElem_fin]
  · have hframe : (s.classify c).frame = s.frame := if_neg hroom
    rw [if_neg fun h => hroom h.1, hframe]

/-! ## A sample of the other level (R117, R118) -/

theorem exec_dhtSample_change {s : State} (h : s.pins.dhtI ≠ s.decLast) :
    exec .dhtSample s = .next (s.sampleChange s.pins.dhtI) :=
  congrArg Host.Outcome.next (if_neg h)

/-- The end of a transition touches the frame, the bit count, the decoder and the sequencer, and nothing else. -/
theorem State.sampleChange_eq (s : State) (v : Bool) :
    s.sampleChange v = { s with
      frame := (s.sampleChange v).frame, bitcnt := (s.sampleChange v).bitcnt, decLast := v, decCnt := 0
      decI := (s.sampleChange v).decI, opE := (s.sampleChange v).opE, upc := (s.sampleChange v).upc } := by
  unfold State.sampleChange
  by_cases hlast : s.decI.toNat + 1 = s.par.maxTimings
  · simp only [if_pos hlast]
    split <;> rfl
  · simp only [if_neg hlast]
    split <;> rfl

theorem State.sampleChange_frame (s : State) (v : Bool) :
    (s.sampleChange v).frame =
      if carriesBit s.par s.decI.toNat then (s.classify s.decCnt.toNat).frame else s.frame := by
  rw [State.sampleChange, apply_ite State.frame, State.complete_frame, State.hold_frame, ite_self]
  exact apply_ite State.frame _ _ _

theorem State.sampleChange_bitcnt (s : State) (v : Bool) :
    (s.sampleChange v).bitcnt =
      if carriesBit s.par s.decI.toNat then (s.classify s.decCnt.toNat).bitcnt else s.bitcnt := by
  rw [State.sampleChange, apply_ite State.bitcnt, State.complete_bitcnt, State.hold_bitcnt, ite_self]
  exact apply_ite State.bitcnt _ _ _

theorem State.sampleChange_decI_toNat {s : State} (v : Bool) (h : s.decI.toNat < 127) :
    (s.sampleChange v).decI.toNat = s.decI.toNat + 1 := by
  rw [State.sampleChange, apply_ite State.decI, State.complete_decI, State.hold_decI, ite_self]
  exact toNat_orFree_of_lt _ (by omega)

/-- The last transition completes the op. -/
theorem State.sampleChange_last {s : State} (v : Bool) (h : s.decI.toNat + 1 = s.par.maxTimings) :
    (s.sampleChange v).opE = 0 ∧ (s.sampleChange v).upc = s.upc + 1 := by
  rw [State.sampleChange, if_pos h]
  split <;> exact ⟨rfl, rfl⟩

/-- Any other transition leaves `upc` and counts the step. -/
theorem State.sampleChange_more {s : State} (v : Bool) (h : s.decI.toNat + 1 ≠ s.par.maxTimings) :
    (s.sampleChange v).upc = s.upc ∧ (s.sampleChange v).opE = s.hold.opE := by
  rw [State.sampleChange, if_neg h]
  split <;> exact ⟨rfl, rfl⟩

/-! ## The three verdicts of DHT_CHECK (R124 to R126) -/

/-- A short frame is TIMEOUT, whatever its checksum byte holds. -/
theorem exec_dhtCheck_short {s : State} (h : s.bitcnt.toNat < s.par.minBits) :
    exec .dhtCheck s =
      .next { s with decStatus := .timeout, rdValid := false, errTo := s.errTo + 1 }.complete :=
  congrArg (fun t => Host.Outcome.next (State.complete t)) (if_pos h)

theorem exec_dhtCheck_ok {s : State} (h : ¬ s.bitcnt.toNat < s.par.minBits) (hsum : checksumOk s.frame = true) :
    exec .dhtCheck s = .next { s with decStatus := .ok, rdValid := true }.complete :=
  congrArg (fun t => Host.Outcome.next (State.complete t)) ((if_neg h).trans (if_pos hsum))

theorem exec_dhtCheck_checksum {s : State} (h : ¬ s.bitcnt.toNat < s.par.minBits) (hsum : ¬ checksumOk s.frame = true) :
    exec .dhtCheck s =
      .next { s with decStatus := .checksum, rdValid := false, errCk := s.errCk + 1 }.complete :=
  congrArg (fun t => Host.Outcome.next (State.complete t)) ((if_neg h).trans (if_neg hsum))

/-! ## The reading of DHT_CONVERT (R128, R129) -/

theorem exec_dhtConvert_valid {s : State} (h : s.rdValid = true) :
    exec .dhtConvert s = .next { s with rdHum := s.frame[0], rdTemp10 := tempTenths s.frame[2] }.complete :=
  congrArg (fun t => Host.Outcome.next (State.complete t)) (if_pos h)

theorem exec_dhtConvert_invalid {s : State} (h : ¬ s.rdValid = true) : exec .dhtConvert s = .next s.complete :=
  congrArg (fun t => Host.Outcome.next (State.complete t)) (if_neg h)

/-! ## The obligations -/

/-- Settles O23: the sequencer splits on the last transition (R117), the frame and the bit count on whether the
transition carries a bit (R118), and the bit's place and value are those of `Classify` (R119, R120). -/
theorem dhtSampleOnALevelChange : Obligations.DhtSampleOnALevelChange := by
  refine ⟨rfl, fun s h => ⟨s.sampleChange s.pins.dhtI, exec_dhtSample_change h, s.sampleChange_eq _,
    State.sampleChange_decI_toNat _, ?sequencer, ?bit⟩⟩
  case sequencer =>
    split
    next hlast => exact State.sampleChange_last _ hlast
    next hmore =>
      obtain ⟨hupc, hopE⟩ := State.sampleChange_more s.pins.dhtI hmore
      exact ⟨hupc, fun hfit => by rw [hopE, State.hold_opE_toNat hfit]⟩
  case bit =>
    rw [State.sampleChange_frame, State.sampleChange_bitcnt]
    split
    next hbit =>
      rw [if_pos ((carriesBit_iff _ _).mpr hbit), if_pos ((carriesBit_iff _ _).mpr hbit)]
      exact ⟨s.classify_bitcnt_toNat _, s.classify_frame_toNat _⟩
    next hbit =>
      rw [if_neg fun h => hbit ((carriesBit_iff _ _).mp h), if_neg fun h => hbit ((carriesBit_iff _ _).mp h)]
      exact ⟨rfl, rfl⟩

/-- Settles O24: the three verdicts, the bit count tested before the checksum (R126). -/
theorem dhtCheckJudgesTheFrame : Obligations.DhtCheckJudgesTheFrame := by
  refine ⟨by decide, rfl, fun s => ?_⟩
  by_cases hshort : s.bitcnt.toNat < s.par.minBits
  · rw [exec_dhtCheck_short hshort, if_pos hshort]
    rfl
  · rw [if_neg hshort]
    by_cases hsum : checksumOk s.frame = true
    · rw [exec_dhtCheck_ok hshort hsum, if_neg (not_not.mpr ((checksumOk_iff _).mp hsum))]
      rfl
    · rw [exec_dhtCheck_checksum hshort hsum, if_pos (mt (checksumOk_iff _).mpr hsum)]
      rfl

/-- Settles O25: the temperature is `tempTenths` of byte 2, which fits 13 bits, and both registers hang on
`rd_valid`. -/
theorem dhtConvertReadsTheFrame : Obligations.DhtConvertReadsTheFrame := by
  refine ⟨by decide, fun s => ⟨tempTenths s.frame[2], tempTenths_toNat _, ?_⟩⟩
  by_cases hvalid : s.rdValid = true
  · rw [exec_dhtConvert_valid hvalid, if_pos hvalid, if_pos hvalid]
    rfl
  · rw [exec_dhtConvert_invalid hvalid, if_neg hvalid, if_neg hvalid]
    rfl

end Sys2Proof.Machine

/-! PROOFS. The sequencing ops of one step: the branch on a failed check (45_timer_sequencer.md R207), JMP (R208) and
NOP (R210), their words, and the places of JMP and NOP in the normative microprogram (R215, R216). -/

namespace Sys2Proof.Machine

/-! ## Words by their fields (30_encoding.md R80, R84) -/

theorem ofFields_toNat (opc : BitVec 6) (sel : BitVec 2) (imm : BitVec 8) :
    (ofFields opc sel imm).toNat = opc.toNat * 1024 + sel.toNat * 256 + imm.toNat := by
  rw [ofFields, toNat_append_eq_add, toNat_append_eq_add]
  omega

@[simp] theorem fieldOpc_ofFields (opc : BitVec 6) (sel : BitVec 2) (imm : BitVec 8) :
    fieldOpc (ofFields opc sel imm) = opc := by
  apply BitVec.eq_of_toNat_eq
  rw [fieldOpc, BitVec.extractLsb'_toNat, ofFields_toNat, Nat.shiftRight_eq_div_pow]
  omega

@[simp] theorem fieldSel_ofFields (opc : BitVec 6) (sel : BitVec 2) (imm : BitVec 8) :
    fieldSel (ofFields opc sel imm) = sel := by
  apply BitVec.eq_of_toNat_eq
  rw [fieldSel, BitVec.extractLsb'_toNat, ofFields_toNat, Nat.shiftRight_eq_div_pow]
  omega

@[simp] theorem fieldImm_ofFields (opc : BitVec 6) (sel : BitVec 2) (imm : BitVec 8) :
    fieldImm (ofFields opc sel imm) = imm := by
  apply BitVec.eq_of_toNat_eq
  rw [fieldImm, BitVec.extractLsb'_toNat, ofFields_toNat, Nat.shiftRight_zero]
  omega

/-- R84 writes a branch as its first word plus the target: the target is the word's `imm8`. -/
theorem ofFields_zero_add_imm (opc : BitVec 6) (sel : BitVec 2) (imm : BitVec 8) :
    ofFields opc sel 0 + imm.setWidth 16 = ofFields opc sel imm := by
  apply BitVec.eq_of_toNat_eq
  rw [BitVec.toNat_add, BitVec.toNat_setWidth_of_le (by decide), ofFields_toNat, ofFields_toNat]
  simp only [BitVec.ofNat_eq_ofNat, BitVec.toNat_zero]
  omega

theorem decode_brDecFailWord (t : BitVec 8) : decode (0xA400 + t.setWidth 16) = some (.brDecFail t) := by
  rw [show (0xA400 : OpWord) = ofFields 0x29 0 0 by decide, ofFields_zero_add_imm]
  simp [decode, branchOp]

theorem decode_jmpWord (t : BitVec 8) : decode (0xA800 + t.setWidth 16) = some (.jmp t) := by
  rw [show (0xA800 : OpWord) = ofFields 0x2A 0 0 by decide, ofFields_zero_add_imm]
  simp [decode, branchOp]

/-! ## The words of the normative ROM (45_timer_sequencer.md R215, R216) -/

/-- Past the microprogram stands the fill word. -/
theorem normativeWord_of_gt {k : Nat} (h : lastUsedIndex < k) : normativeWord k = fillWord := by
  rw [normativeWord, List.getElem?_eq_none (show microprogram.length ≤ k from h), Option.getD_none]

/-- Every word of the normative ROM is one of the microprogram or the fill word. -/
theorem normativeWord_mem_or_fill (k : Nat) : normativeWord k ∈ microprogram ∨ normativeWord k = fillWord := by
  rcases Nat.lt_or_ge k microprogram.length with h | h
  · rw [normativeWord, List.getElem?_eq_getElem h, Option.getD_some]
    exact .inl (List.getElem_mem h)
  · exact .inr (normativeWord_of_gt h)

/-- No index of the normative ROM holds a jump onto itself: not inside the microprogram, and the fill word is no
jump. -/
theorem normativeWord_ne_selfJump (k : BitVec 8) : normativeWord k.toNat ≠ 0xA800 + k.setWidth 16 := by
  rcases Nat.lt_or_ge lastUsedIndex k.toNat with hfill | hused
  · intro h
    have hjmp := decode_jmpWord k
    rw [← h, normativeWord_of_gt hfill] at hjmp
    exact absurd (hjmp.symm.trans (by decide : decode fillWord = none)) (Option.some_ne_none _)
  · have hprogram : ∀ j ≤ lastUsedIndex, normativeWord j ≠ 0xA800 + BitVec.ofNat 16 j := by decide
    rw [← BitVec.ofNat_toNat]
    exact hprogram k.toNat hused

/-! ## One step of each op -/

theorem exec_jmp (t : BitVec 8) (s : State) : exec (.jmp t) s = .next (s.branch t) := rfl

theorem exec_nop (s : State) : exec .nop s = .next s.complete := rfl

theorem exec_brDecFail_taken {s : State} (t : BitVec 8) (h : s.rdValid = false) :
    exec (.brDecFail t) s = .next (s.branch t) :=
  congrArg Host.Outcome.next (if_neg (by simp [h]))

theorem exec_brDecFail_passed {s : State} (t : BitVec 8) (h : ¬ s.rdValid = false) :
    exec (.brDecFail t) s = .next s.complete :=
  congrArg Host.Outcome.next (if_pos (by simpa using h))

/-! ## The result of the last check stands until the next one (R207) -/

theorem State.sampleSame_rdValid (s : State) : s.sampleSame.rdValid = s.rdValid := by
  unfold State.sampleSame
  split <;> rfl

theorem State.sampleChange_rdValid (s : State) (v : Bool) : (s.sampleChange v).rdValid = s.rdValid :=
  (congrArg State.rdValid (s.sampleChange_eq v) :)

/-- Every op but DHT_CHECK keeps `rd_valid`. -/
theorem exec_rdValid {i : Instr} {s t : State} (h : exec i s = .next t) (hi : i ≠ .dhtCheck) :
    t.rdValid = s.rdValid := by
  cases i <;> obtain rfl := Host.Outcome.next.inj h
  case dhtCheck => exact absurd rfl hi
  case dhtSample =>
    split
    · exact s.sampleSame_rdValid
    · exact s.sampleChange_rdValid _
  case winFill w | winShift w | winAvg w => cases w <;> rfl
  case wait => exact State.finishAt_rdValid _ _
  case dhtStart | dhtWake | dhtConvert | ctlFan | ctlRefill | ctlEmpty | tmrStart | tmrStop | brNotElapsed | brDecFail =>
    simp only [apply_ite State.rdValid, State.finishAt_rdValid, State.complete_rdValid, State.branch_rdValid,
      State.startHandshake_rdValid, ite_self]
  all_goals rfl

/-! ## The obligations -/

/-- Settles O40: the word's target is its `imm8`, the branch hangs on `rd_valid`, and only DHT_CHECK writes that. -/
theorem brDecFailTestsTheReading : Obligations.BrDecFailTestsTheReading := by
  refine ⟨decode_brDecFailWord, fun t s => ?step, fun _ _ _ => exec_rdValid, rfl⟩
  case step =>
    by_cases hfail : s.rdValid = false
    · rw [exec_brDecFail_taken t hfail, if_pos hfail]
      rfl
    · rw [exec_brDecFail_passed t hfail, if_neg hfail]
      rfl

/-- Settles O41: JMP is one branch, onto its own index it leaves `upc`, and the normative ROM has no such word. -/
theorem jmpTakesItsTarget : Obligations.JmpTakesItsTarget :=
  ⟨decode_jmpWord, exec_jmp, fun s => exec_jmp s.upc s, decode_jmpWord 0x14,
    fun k => (romWord_normative k).symm ▸ normativeWord_ne_selfJump k⟩

/-- Settles O42: NOP is one completion, and its word is neither in the microprogram nor the fill word. -/
theorem nopOnlyCompletes : Obligations.NopOnlyCompletes := by
  refine ⟨by decide, exec_nop, fun k hnop => ?_⟩
  rw [show romWord State.reset.rom k = normativeWord k.toNat from romWord_normative k] at hnop
  rcases normativeWord_mem_or_fill k.toNat with hmem | hfill
  · exact absurd (hnop ▸ hmem) (by decide)
  · exact absurd (hnop.symm.trans hfill) (by decide)

end Sys2Proof.Machine

/-! PROOFS. The encoder and the decoder (30_encoding.md R80, R84, R85): the round trip both ways, the illegal words,
the words of the table, and the assembly of the microprogram (45_timer_sequencer.md R214, R215). -/

namespace Sys2Proof.Machine

/-! ## The fields of a word as arithmetic (R80) -/

theorem fieldOpc_toNat (w : OpWord) : (fieldOpc w).toNat = w.toNat / 1024 := by
  rw [fieldOpc, BitVec.extractLsb'_toNat, Nat.shiftRight_eq_div_pow]
  omega

theorem fieldSel_toNat (w : OpWord) : (fieldSel w).toNat = w.toNat / 256 % 4 := by
  rw [fieldSel, BitVec.extractLsb'_toNat, Nat.shiftRight_eq_div_pow]

theorem fieldImm_toNat (w : OpWord) : (fieldImm w).toNat = w.toNat % 256 := by
  rw [fieldImm, BitVec.extractLsb'_toNat, Nat.shiftRight_zero]

/-- A word is its three fields. -/
theorem ofFields_fields (w : OpWord) : ofFields (fieldOpc w) (fieldSel w) (fieldImm w) = w := by
  apply BitVec.eq_of_toNat_eq
  rw [ofFields_toNat, fieldOpc_toNat, fieldSel_toNat, fieldImm_toNat]
  omega

/-! ## What each family of ops accepts (R85 (b) to (e)) -/

theorem plainOp_eq_some {i j : Instr} {sel : BitVec 2} {imm : BitVec 8} :
    plainOp i sel imm = some j ↔ sel = 0 ∧ imm = 0 ∧ i = j := by
  simp [plainOp, and_assoc]

theorem plainOp_eq_none {i : Instr} {sel : BitVec 2} {imm : BitVec 8} :
    plainOp i sel imm = none ↔ sel.toNat ≠ 0 ∨ imm.toNat ≠ 0 := by
  simp only [plainOp, ite_eq_right_iff, reduceCtorEq, imp_false, ← BitVec.toNat_inj, BitVec.ofNat_eq_ofNat,
    BitVec.toNat_zero]
  omega

theorem winOfSel_eq_some {sel : BitVec 2} {w : Win} : winOfSel sel = some w ↔ sel = w.sel := by
  cases w <;> revert sel <;> decide

theorem winOfSel_eq_none {sel : BitVec 2} : winOfSel sel = none ↔ sel.toNat = 3 := by
  revert sel; decide

theorem windowOp_eq_some {f : Win → Instr} {j : Instr} {sel : BitVec 2} {imm : BitVec 8} :
    windowOp f sel imm = some j ↔ imm = 0 ∧ ∃ w : Win, sel = w.sel ∧ f w = j := by
  simp [windowOp, winOfSel_eq_some]

theorem windowOp_eq_none {f : Win → Instr} {sel : BitVec 2} {imm : BitVec 8} :
    windowOp f sel imm = none ↔ sel.toNat = 3 ∨ imm.toNat ≠ 0 := by
  simp only [windowOp, ite_eq_right_iff, Option.map_eq_none_iff, winOfSel_eq_none, ← BitVec.toNat_inj,
    BitVec.ofNat_eq_ofNat, BitVec.toNat_zero]
  omega

theorem waitOfSel_eq_some {sel : BitVec 2} {w : WaitSel} : waitOfSel sel = some w ↔ sel = w.sel := by
  cases w <;> revert sel <;> decide

theorem waitOfSel_eq_none {sel : BitVec 2} : waitOfSel sel = none ↔ 2 ≤ sel.toNat := by
  revert sel; decide

theorem waitOp_eq_some {j : Instr} {sel : BitVec 2} {imm : BitVec 8} :
    waitOp sel imm = some j ↔ imm = 0 ∧ ∃ w : WaitSel, sel = w.sel ∧ .wait w = j := by
  simp [waitOp, waitOfSel_eq_some]

theorem waitOp_eq_none {sel : BitVec 2} {imm : BitVec 8} :
    waitOp sel imm = none ↔ 2 ≤ sel.toNat ∨ imm.toNat ≠ 0 := by
  simp only [waitOp, ite_eq_right_iff, Option.map_eq_none_iff, waitOfSel_eq_none, ← BitVec.toNat_inj,
    BitVec.ofNat_eq_ofNat, BitVec.toNat_zero]
  omega

theorem branchOp_eq_some {f : BitVec 8 → Instr} {j : Instr} {sel : BitVec 2} {imm : BitVec 8} :
    branchOp f sel imm = some j ↔ sel = 0 ∧ f imm = j := by
  simp [branchOp]

theorem branchOp_eq_none {f : BitVec 8 → Instr} {sel : BitVec 2} {imm : BitVec 8} :
    branchOp f sel imm = none ↔ sel.toNat ≠ 0 := by
  simp [branchOp, ← BitVec.toNat_inj]

/-! ## A word that a family accepts is the one its op is encoded as -/

theorem eq_ofFields {w : OpWord} {n : Nat} {sel : BitVec 2} {imm : BitVec 8} (hopc : (fieldOpc w).toNat = n)
    (hsel : fieldSel w = sel) (himm : fieldImm w = imm) : ofFields (BitVec.ofNat 6 n) sel imm = w := by
  rw [← hopc, BitVec.ofNat_toNat, BitVec.setWidth_eq, ← hsel, ← himm, ofFields_fields]

theorem encode_of_plainOp {w : OpWord} {i j : Instr} {n : Nat} (hopc : (fieldOpc w).toNat = n)
    (h : plainOp i (fieldSel w) (fieldImm w) = some j) (henc : encode i = ofFields (BitVec.ofNat 6 n) 0 0) :
    encode j = w := by
  obtain ⟨hsel, himm, rfl⟩ := plainOp_eq_some.mp h
  rw [henc, eq_ofFields hopc hsel himm]

theorem encode_of_windowOp {w : OpWord} {f : Win → Instr} {j : Instr} {n : Nat} (hopc : (fieldOpc w).toNat = n)
    (h : windowOp f (fieldSel w) (fieldImm w) = some j)
    (henc : ∀ v, encode (f v) = ofFields (BitVec.ofNat 6 n) v.sel 0) : encode j = w := by
  obtain ⟨himm, v, hsel, rfl⟩ := windowOp_eq_some.mp h
  rw [henc, eq_ofFields hopc hsel himm]

theorem encode_of_waitOp {w : OpWord} {j : Instr} (hopc : (fieldOpc w).toNat = 0x2B)
    (h : waitOp (fieldSel w) (fieldImm w) = some j) : encode j = w := by
  obtain ⟨himm, v, hsel, rfl⟩ := waitOp_eq_some.mp h
  exact eq_ofFields hopc hsel himm

theorem encode_of_branchOp {w : OpWord} {f : BitVec 8 → Instr} {j : Instr} {n : Nat}
    (hopc : (fieldOpc w).toNat = n) (h : branchOp f (fieldSel w) (fieldImm w) = some j)
    (henc : ∀ t, encode (f t) = ofFields (BitVec.ofNat 6 n) 0 t) : encode j = w := by
  obtain ⟨hsel, rfl⟩ := branchOp_eq_some.mp h
  rw [henc, eq_ofFields hopc hsel rfl]

/-! ## The five checks of R85 as arithmetic -/

/-- R85 (a) to (e) over the bit positions of R80. -/
def IllegalFields (opc w imm8 : Nat) : Prop :=
  (opc = 0x07 ∨ (0x0B ≤ opc ∧ opc ≤ 0x0F) ∨ (0x12 ≤ opc ∧ opc ≤ 0x17) ∨ opc = 0x1E ∨ opc = 0x1F ∨
    (0x24 ≤ opc ∧ opc ≤ 0x27) ∨ 0x2C ≤ opc) ∨
  ((opc = 0x08 ∨ opc = 0x09 ∨ opc = 0x0A) ∧ w = 3) ∨ (opc = 0x2B ∧ 2 ≤ w) ∨
  (¬(opc = 0x08 ∨ opc = 0x09 ∨ opc = 0x0A) ∧ ¬opc = 0x2B ∧ w ≠ 0) ∨
  (¬(opc = 0x28 ∨ opc = 0x29 ∨ opc = 0x2A) ∧ imm8 ≠ 0)

/-- The decoder refuses a word exactly where one of the five checks holds of its fields. -/
theorem decode_eq_none_iff (x : OpWord) :
    decode x = none ↔ IllegalFields (fieldOpc x).toNat (fieldSel x).toNat (fieldImm x).toNat := by
  have hopc := (fieldOpc x).isLt
  unfold decode IllegalFields
  split
  case h_8 | h_9 | h_10 => rw [windowOp_eq_none]; omega
  case h_23 | h_24 | h_25 => rw [branchOp_eq_none]; omega
  case h_26 => rw [waitOp_eq_none]; omega
  case h_27 => simp only [true_iff, imp_false] at *; omega
  all_goals rw [plainOp_eq_none]; omega

/-- The model's own checks of an op word (`illegalWord`) say the same. -/
theorem illegalWord_iff (x : OpWord) :
    illegalWord x = true ↔ IllegalFields (fieldOpc x).toNat (fieldSel x).toNat (fieldImm x).toNat := by
  simp only [illegalWord, illegalOpc, illegalWindow, illegalWait, illegalSelector, illegalImmediate, isWindowOpc,
    isWaitOpc, isBranchOpc, opcBetween, Bool.or_eq_true, Bool.and_eq_true, Bool.not_eq_true', beq_iff_eq,
    decide_eq_true_eq, bne_iff_ne, ne_eq, Bool.or_eq_false_iff, beq_eq_false_iff_ne, ← BitVec.toNat_inj,
    show x.opc = fieldOpc x from rfl, show x.sel = fieldSel x from rfl, show x.imm8 = fieldImm x from rfl,
    BitVec.toNat_ofNat, BitVec.ofNat_eq_ofNat, IllegalFields]
  omega

theorem decode_eq_none_iff_illegalWord (x : OpWord) : decode x = none ↔ illegalWord x = true :=
  (decode_eq_none_iff x).trans (illegalWord_iff x).symm

/-! ## The microprogram as ops (45_timer_sequencer.md R215, R216) -/

/-- The absolute target of a branch (R81). -/
def Instr.target : Instr → Option (BitVec 8)
  | .brNotElapsed t | .brDecFail t | .jmp t => some t
  | _ => none

theorem Instr.target_eq_some {i : Instr} {t : BitVec 8} :
    Instr.target i = some t ↔ i = .brNotElapsed t ∨ i = .brDecFail t ∨ i = .jmp t := by
  cases i <;> simp [Instr.target]

/-- The op at an index of the microprogram. -/
def programOp (k : Nat) : Instr := (decode (normativeWord k)).getD .nop

theorem decode_normativeWord {k : Nat} (h : k ≤ lastUsedIndex) : decode (normativeWord k) = some (programOp k) := by
  revert k; decide

/-- Every target of the microprogram is one of its five labels. -/
theorem programOp_target {k : Nat} {t : BitVec 8} (hk : k ≤ lastUsedIndex) (h : Instr.target (programOp k) = some t) :
    t = 0x05 ∨ t = 0x12 ∨ t = 0x14 ∨ t = 0x23 ∨ t = 0x2B := by
  have hlabels : ∀ j ≤ lastUsedIndex, ∀ u ∈ Instr.target (programOp j),
      u = 0x05 ∨ u = 0x12 ∨ u = 0x14 ∨ u = 0x23 ∨ u = 0x2B := by decide
  exact hlabels k hk t h

/-! ## The obligations -/

/-- Settles O1, op by op: a word without operands is one value, a selector takes two or three, and a target is the
word's `imm8` whatever it is. -/
theorem decodeOfEncodeIsTheOp : Obligations.DecodeOfEncodeIsTheOp := by
  intro i
  cases i
  case winFill w | winShift w | winAvg w => cases w <;> decide
  case wait w => cases w <;> decide
  case brNotElapsed t | brDecFail t | jmp t => simp [decode, encode, branchOp]
  all_goals decide

/-- Settles O2: `opc` names the family, and each family accepts only the fields that its ops are encoded with. -/
theorem encodeOfDecodeIsTheWord : Obligations.EncodeOfDecodeIsTheWord := by
  intro w i h
  unfold decode at h
  split at h <;> rename_i hopc
  case h_8 | h_9 | h_10 => exact encode_of_windowOp hopc h fun _ => rfl
  case h_23 | h_24 | h_25 => exact encode_of_branchOp hopc h fun _ => rfl
  case h_26 => exact encode_of_waitOp hopc h
  case h_27 => exact absurd h (Option.some_ne_none i).symm
  all_goals exact encode_of_plainOp hopc h rfl

/-- Settles O3: the checks of `decode_eq_none_iff`, with the fields written as R80 places them. -/
theorem decoderRefusesExactlyIllegalWords : Obligations.DecoderRefusesExactlyIllegalWords := by
  intro x
  have h := decode_eq_none_iff x
  rw [fieldOpc_toNat, fieldSel_toNat, fieldImm_toNat] at h
  exact h

/-- Settles O4: the decoder is evaluated at each word. -/
theorem specWordsDecode : Obligations.SpecWordsDecode := by
  unfold Obligations.SpecWordsDecode
  decide

/-- Settles O5: the assembly is evaluated, what stands at an index of the fitted ROM is `normativeWord` of it, and the
targets are those of `programOp_target`. -/
theorem assemblyGivesTheRomWords : Obligations.AssemblyGivesTheRomWords := by
  have hrom (k : BitVec 8) : romWord State.reset.rom k = normativeWord k.toNat := romWord_normative k
  refine ⟨by decide, by decide, by decide, hrom, fun k hk => ⟨programOp k.toNat, ?op, fun t ht => ?target⟩, ?last,
    by decide⟩
  case op => rw [hrom, decode_normativeWord hk]
  case target => exact programOp_target hk (Instr.target_eq_some.mpr ht)
  case last => rw [hrom]; decide

end Sys2Proof.Machine

/-! PROOFS. One step of each op as the whole next state: what it writes, with what, and nothing else. -/

namespace Sys2Proof.Machine

/-! ## The end of an op (10_state.md R38, R39) -/

/-- A multi-step op writes the sequencer's registers at the end of its step, and nothing else. -/
theorem State.finishAt_eq_fields (d : Nat) (s : State) :
    s.finishAt d = { s with
      opE := if s.opE.toNat + 1 = d then 0 else s.hold.opE
      upc := if s.opE.toNat + 1 = d then s.upc + 1 else s.upc } := by
  rw [State.finishAt_eq]
  split <;> rfl

/-! ## Frame decoder ops (41_frame_decoder.md R111, R113, R115, R117, R121) -/

theorem exec_dhtStart (s : State) :
    exec .dhtStart s = .next { s with
      dhtOe := if s.opE = 0 then true else s.dhtOe
      dhtO := if s.opE = 0 then false else s.dhtO
      frame := if s.opE = 0 then #v[0, 0, 0, 0, 0] else s.frame
      bitcnt := if s.opE = 0 then 0 else s.bitcnt
      decTo := if s.opE = 0 then false else s.decTo
      opE := if s.opE.toNat + 1 = s.par.tStartLowUs then 0 else s.hold.opE
      upc := if s.opE.toNat + 1 = s.par.tStartLowUs then s.upc + 1 else s.upc } := by
  rw [exec, execDhtStart, State.finishAt_eq_fields]
  by_cases hfirst : s.opE = 0
  · simp only [if_pos hfirst]; rfl
  · simp only [if_neg hfirst]

theorem exec_dhtWake (s : State) :
    exec .dhtWake s = .next { s with
      dhtOe := if s.opE = 0 then true else s.dhtOe
      dhtO := if s.opE = 0 then true else s.dhtO
      opE := if s.opE.toNat + 1 = s.par.tStartHighUs then 0 else s.hold.opE
      upc := if s.opE.toNat + 1 = s.par.tStartHighUs then s.upc + 1 else s.upc } := by
  rw [exec, execDhtWake, State.finishAt_eq_fields]
  by_cases hfirst : s.opE = 0
  · simp only [if_pos hfirst]; rfl
  · simp only [if_neg hfirst]

theorem exec_dhtRelease (s : State) :
    exec .dhtRelease s =
      .next { s with dhtOe := false, decLast := true, decCnt := 0, decI := 0, opE := 0, upc := s.upc + 1 } := rfl

theorem exec_dhtSample_same {s : State} (h : s.pins.dhtI = s.decLast) : exec .dhtSample s = .next s.sampleSame :=
  congrArg Host.Outcome.next (if_pos h)

/-- The `TIMEOUT_COUNT`-th equal sample ends the sampling (R121). -/
theorem State.sampleSame_timeout {s : State} (h : s.decCnt.toNat + 1 = s.par.timeoutCount) :
    s.sampleSame = { s with
      decCnt := orFree 8 (Config.freeDecCnt s.draws) s.par.timeoutCount, decTo := true, opE := 0, upc := s.upc + 1 } :=
  if_pos h

/-- Any other equal sample is counted (R117). -/
theorem State.sampleSame_more {s : State} (h : s.decCnt.toNat + 1 ≠ s.par.timeoutCount) :
    s.sampleSame = { s with
      decCnt := orFree 8 (Config.freeDecCnt s.draws) (s.decCnt.toNat + 1), opE := s.hold.opE } :=
  if_neg h

theorem exec_dhtCheck (s : State) :
    exec .dhtCheck s = .next { s with
      decStatus :=
        if s.bitcnt.toNat < s.par.minBits then .timeout else if checksumOk s.frame then .ok else .checksum
      rdValid := if s.bitcnt.toNat < s.par.minBits then false else checksumOk s.frame
      errTo := if s.bitcnt.toNat < s.par.minBits then s.errTo + 1 else s.errTo
      errCk := if s.bitcnt.toNat < s.par.minBits then s.errCk else if checksumOk s.frame then s.errCk else s.errCk + 1
      opE := 0, upc := s.upc + 1 } := by
  by_cases hshort : s.bitcnt.toNat < s.par.minBits
  · simp only [exec_dhtCheck_short hshort, if_pos hshort]; rfl
  · by_cases hsum : checksumOk s.frame = true
    · simp only [exec_dhtCheck_ok hshort hsum, if_neg hshort, hsum]; rfl
    · simp only [exec_dhtCheck_checksum hshort hsum, if_neg hshort, Bool.eq_false_iff.mpr hsum]; rfl

theorem exec_dhtConvert (s : State) :
    exec .dhtConvert s = .next { s with
      rdHum := if s.rdValid then s.frame[0] else s.rdHum
      rdTemp10 := if s.rdValid then tempTenths s.frame[2] else s.rdTemp10
      opE := 0, upc := s.upc + 1 } := by
  by_cases hvalid : s.rdValid = true
  · simp only [exec_dhtConvert_valid hvalid, if_pos hvalid]; rfl
  · simp only [exec_dhtConvert_invalid hvalid, if_neg hvalid]; rfl

/-! ## Sliding window ops (42_sliding_window.md R141 to R145) -/

theorem exec_winFill (w : Win) (s : State) :
    exec (.winFill w) s = .next { s with
      wHum := if w = .hum then winFilled s.par.nWin s.rdHum else s.wHum
      wTemp := if w = .temp then winFilled s.par.nWin s.rdTemp10 else s.wTemp
      wWater := if w = .water then winFilled s.par.nWin s.wlMapped else s.wWater
      opE := 0, upc := s.upc + 1 } := by
  cases w <;> rfl

theorem exec_winShift (w : Win) (s : State) :
    exec (.winShift w) s = .next { s with
      wHum := if w = .hum then winShifted s.wHum s.rdHum else s.wHum
      wTemp := if w = .temp then winShifted s.wTemp s.rdTemp10 else s.wTemp
      wWater := if w = .water then winShifted s.wWater s.wlMapped else s.wWater
      opE := 0, upc := s.upc + 1 } := by
  cases w <;> rfl

/-- The sum that WIN_AVG HUM stores (log entry 4 where it does not fit). -/
def State.storedHum (s : State) : BitVec 12 := orFree 12 (Config.freeSumHum s.draws) (winSumU s.wHum)
/-- The sum that WIN_AVG TEMP stores. -/
def State.storedTemp (s : State) : BitVec 17 := orFree 17 (Config.freeSumTemp s.draws) (winSumU s.wTemp)
/-- The sum that WIN_AVG WATER stores, two's complement. -/
def State.storedWater (s : State) : BitVec 12 := orFreeInt 12 (Config.freeSumWater s.draws) (winSumS s.wWater)

theorem exec_winAvg (w : Win) (s : State) :
    exec (.winAvg w) s = .next { s with
      sumHum := if w = .hum then s.storedHum else s.sumHum
      sumTemp := if w = .temp then s.storedTemp else s.sumTemp
      sumWater := if w = .water then s.storedWater else s.sumWater
      opE := 0, upc := s.upc + 1 } := by
  cases w <;> rfl

/-! ## Water level ops (43_water_level.md R160 to R163) -/

/-- The mapping that WL_SAMPLE stores (log entry 4 where it does not fit). -/
def State.storedMap (s : State) : BitVec 8 :=
  orFreeInt 8 (Config.freeWlMapped s.draws) (waterMap s.par s.pins.adcVal)

theorem exec_wlSample (s : State) :
    exec .wlSample s = .next { s with wlRaw := s.pins.adcVal, wlMapped := s.storedMap, opE := 0, upc := s.upc + 1 } :=
  rfl

theorem State.waterLow_eq (s : State) :
    s.waterLow = decide ((s.wWater.map BitVec.toInt).sum < (s.par.nWin : Int) * s.par.waterThreshold) := by
  simp only [State.waterLow, avgBelow, State.winSum, winSumS, one_mul]

theorem exec_wlEval (s : State) :
    exec .wlEval s = .next { s with outOfWater := s.waterLow, opE := 0, upc := s.upc + 1 } := rfl

/-! ## Controller ops (44_controller.md R171 to R180) -/

theorem exec_dialRead (s : State) :
    exec .dialRead s = .next { s with dial10 := s.pins.setIn, opE := 0, upc := s.upc + 1 } := rfl

theorem exec_setLatch (s : State) :
    exec .setLatch s = .next { s with setHum10 := s.dial10, opE := 0, upc := s.upc + 1 } := rfl

/-- With water the fan takes the comparison's value whatever it was (R175). -/
theorem exec_ctlFan (s : State) :
    exec .ctlFan s = .next { s with
      fanOn := if s.outOfWater then s.fanOn else s.below, opE := 0, upc := s.upc + 1 } := by
  rw [exec, execCtlFan]
  by_cases hwater : s.outOfWater = true
  · simp only [if_pos hwater]; rfl
  · simp only [if_neg hwater]
    cases hbelow : s.below <;> cases hfan : s.fanOn <;> simp [State.complete, hfan]

theorem State.below_eq (s : State) :
    s.below = decide (10 * (s.sumHum.toNat : Int) <
      (s.par.nWin : Int) * ((s.setHum10.toNat : Int) - s.par.toleranceX10)) := rfl

theorem State.refillEdge_iff (s : State) : s.refillEdge = true ↔ s.outOfWater = false ∧ s.lastOutOfWater = true := by
  simp [State.refillEdge]

theorem State.emptyEdge_iff (s : State) : s.emptyEdge = true ↔ s.outOfWater = true ∧ s.lastOutOfWater = false := by
  simp [State.emptyEdge]

theorem exec_ctlRefill (s : State) :
    exec .ctlRefill s = .next { s with
      led := if s.outOfWater = false ∧ s.lastOutOfWater = true then false else s.led, opE := 0, upc := s.upc + 1 } := by
  simp only [exec, execCtlRefill, State.refillEdge_iff]
  split <;> rfl

/-- Without the edge CTL_EMPTY does nothing. -/
theorem exec_ctlEmpty_idle {s : State} (h : ¬ s.emptyEdge = true) :
    exec .ctlEmpty s = .next { s with opE := 0, upc := s.upc + 1 } :=
  congrArg Host.Outcome.next (if_neg h)

/-- With the edge it is the alarm (R178). -/
theorem exec_ctlEmpty_alarm {s : State} (h : s.emptyEdge = true) :
    exec .ctlEmpty s = .next { s with
      fanOn := if s.opE = 0 then false else s.fanOn
      led := if s.opE = 0 then true else s.led
      alm := alarmLevel s.par s.opE.toNat
      opE := if s.opE.toNat + 1 = s.par.tAlarmUs then 0 else s.hold.opE
      upc := if s.opE.toNat + 1 = s.par.tAlarmUs then s.upc + 1 else s.upc } := by
  rw [exec, execCtlEmpty, if_pos h, State.finishAt_eq_fields]
  by_cases hfirst : s.opE = 0
  · simp only [if_pos hfirst]; rfl
  · simp only [if_neg hfirst]; rfl

theorem exec_ctlCommit (s : State) :
    exec .ctlCommit s = .next { s with lastOutOfWater := s.outOfWater, opE := 0, upc := s.upc + 1 } := rfl

/-! ## Timer and sequencing ops (45_timer_sequencer.md R201 to R209) -/

theorem exec_tmrStart (s : State) :
    exec .tmrStart s = .next { s with
      tmrStart := if s.tmrRun then s.tmrStart else s.nowMs, tmrRun := true, opE := 0, upc := s.upc + 1 } := by
  rw [exec, execTmrStart]
  cases hrun : s.tmrRun <;> simp [State.complete, hrun]

theorem exec_tmrStop (s : State) :
    exec .tmrStop s = .next { s with
      tmrAcc := if s.tmrRun then s.tmrAcc + (s.nowMs - s.tmrStart) else s.tmrAcc, tmrRun := false
      opE := 0, upc := s.upc + 1 } := by
  rw [exec, execTmrStop]
  cases hrun : s.tmrRun <;> simp [State.complete, hrun]

theorem exec_tmrReset (s : State) :
    exec .tmrReset s = .next { s with tmrAcc := 0, tmrStart := s.nowMs, opE := 0, upc := s.upc + 1 } := rfl

theorem exec_tmrRestart (s : State) :
    exec .tmrRestart s = .next { s with
      tmrDur := s.tickDur, tmrAcc := 0, tmrStart := s.nowMs, tmrRun := true, opE := 0, upc := s.upc + 1 } := rfl

theorem exec_brNotElapsed (x : BitVec 8) (s : State) :
    exec (.brNotElapsed x) s = .next { s with opE := 0, upc := if s.isElapsed then s.upc + 1 else x } := by
  rw [exec, execBrNotElapsed]
  split <;> rfl

theorem exec_brDecFail (x : BitVec 8) (s : State) :
    exec (.brDecFail x) s = .next { s with opE := 0, upc := if s.rdValid = false then x else s.upc + 1 } :=
  brDecFailTestsTheReading.2.1 x s

theorem exec_wait (w : WaitSel) (s : State) :
    exec (.wait w) s = .next { s with
      opE := if s.opE.toNat + 1 = waitSteps s.par w then 0 else s.hold.opE
      upc := if s.opE.toNat + 1 = waitSteps s.par w then s.upc + 1 else s.upc } :=
  congrArg Host.Outcome.next (s.finishAt_eq_fields _)

end Sys2Proof.Machine

/-! PROOFS. The statements about single ops: the handshake and the sampling, the windows, the water level, the
controller and the Timer. -/

namespace Sys2Proof.Machine

/-! ## Frame decoder (41_frame_decoder.md) -/

/-- Settles O19: `exec_dhtStart`, whose counter goes on by one where it fits. -/
theorem dhtStartStep : Obligations.DhtStartStep :=
  fun s => ⟨s.hold.opE, State.hold_opE_toNat, exec_dhtStart s⟩

/-- Settles O20: the three ops share the counter, each with its own last step. -/
theorem dhtWakeAndWaitStep : Obligations.DhtWakeAndWaitStep :=
  fun s => ⟨s.hold.opE, State.hold_opE_toNat, exec_dhtWake s, exec_wait .poll s, exec_wait .retry s⟩

/-- Settles O21: the op's one step. -/
theorem dhtReleaseStep : Obligations.DhtReleaseStep := exec_dhtRelease

/-- Settles O22: the `TIMEOUT_COUNT`-th equal sample, or one that is counted. -/
theorem dhtSampleOnTheSameLevel : Obligations.DhtSampleOnTheSameLevel := by
  intro s h
  refine ⟨orFree 8 (Config.freeDecCnt s.draws) (s.decCnt.toNat + 1),
    orFree 8 (Config.freeDecCnt s.draws) s.par.timeoutCount, s.hold.opE, fun hfit => toNat_orFree_of_lt _ (by omega),
    fun hfit => toNat_orFree_of_lt _ (by omega), State.hold_opE_toNat, ?_⟩
  rw [exec_dhtSample_same h]
  split
  next hlast => rw [State.sampleSame_timeout hlast]
  next hmore => rw [State.sampleSame_more hmore]

/-! ## Sliding windows (42_sliding_window.md) -/

/-- A shift of a window of `n` slots, slot by slot (R143). -/
theorem winShifted_slots {α : Type} {w : List α} {n : Nat} (v : α) (hn : 1 ≤ n) (hw : w.length = n) :
    (winShifted w v).length = n ∧ (∀ k, k + 1 < n → (winShifted w v)[k]? = w[k + 1]?) ∧
      (winShifted w v)[n - 1]? = some v := by
  refine ⟨?_, fun k hk => winShifted_getElem? v (hw ▸ hk), winShifted_newest v (by omega)⟩
  rw [winShifted_length v (List.ne_nil_of_length_pos (by omega)), hw]

/-- Settles O26: the one equation of WIN_FILL at each window. -/
theorem winFillSetsEverySlot : Obligations.WinFillSetsEverySlot :=
  fun s => ⟨exec_winFill .hum s, exec_winFill .temp s, exec_winFill .water s⟩

/-- Settles O27: `winShifted_slots` of each window. -/
theorem winShiftDropsTheOldest : Obligations.WinShiftDropsTheOldest := by
  rintro s ⟨hn, hhum, htemp, hwater⟩
  obtain ⟨hlen, hold, hnew⟩ := winShifted_slots s.rdHum hn hhum
  obtain ⟨tlen, told, tnew⟩ := winShifted_slots s.rdTemp10 hn htemp
  obtain ⟨wlen, wold, wnew⟩ := winShifted_slots s.wlMapped hn hwater
  exact ⟨⟨_, hlen, hold, hnew, exec_winShift .hum s⟩, ⟨_, tlen, told, tnew, exec_winShift .temp s⟩,
    ⟨_, wlen, wold, wnew, exec_winShift .water s⟩⟩

/-- A window of at most 14 unsigned slots of `m` bits sums to at most 14 times their largest value. -/
theorem winSumU_le_of_length {m : Nat} {w : List (BitVec m)} (h : w.length ≤ 14) : winSumU w ≤ 14 * (2 ^ m - 1) :=
  (winSumU_le fun v _ => Nat.le_sub_one_of_lt v.isLt).trans (Nat.mul_le_mul_right _ h)

/-- A window of at most 14 signed bytes. -/
theorem winSumS_mem_of_length {w : List (BitVec 8)} (h : w.length ≤ 14) : -1792 ≤ winSumS w ∧ winSumS w ≤ 1778 := by
  have hslot : ∀ v : BitVec 8, (-128 : Int) ≤ v.toInt ∧ v.toInt ≤ 127 := by decide
  have hsum := winSumS_mem fun v (_ : v ∈ w) => hslot v
  omega

theorem State.storedHum_toNat {s : State} (h : winSumU s.wHum < 2 ^ 12) : s.storedHum.toNat = winSumU s.wHum :=
  toNat_orFree_of_lt _ h

theorem State.storedTemp_toNat {s : State} (h : winSumU s.wTemp < 2 ^ 17) : s.storedTemp.toNat = winSumU s.wTemp :=
  toNat_orFree_of_lt _ h

theorem State.storedWater_toInt {s : State} (h : -2048 ≤ winSumS s.wWater) (h' : winSumS s.wWater ≤ 2047) :
    s.storedWater.toInt = winSumS s.wWater :=
  toInt_orFreeInt_of_mem _ (by decide) ⟨by omega, by omega⟩

/-- Settles O28: a sum that fits is stored as it is, and 14 slots always fit. -/
theorem winAvgStoresTheExactSum : Obligations.WinAvgStoresTheExactSum := by
  refine fun s => ⟨⟨s.storedHum, State.storedHum_toNat, fun hlen => State.storedHum_toNat ?_, exec_winAvg .hum s⟩,
    ⟨s.storedTemp, State.storedTemp_toNat, fun hlen => State.storedTemp_toNat ?_, exec_winAvg .temp s⟩,
    ⟨s.storedWater, State.storedWater_toInt, fun hlen => ?_, exec_winAvg .water s⟩⟩
  · exact Nat.lt_of_le_of_lt (winSumU_le_of_length hlen) (by decide)
  · exact Nat.lt_of_le_of_lt (winSumU_le_of_length hlen) (by decide)
  · obtain ⟨hlo, hhi⟩ := winSumS_mem_of_length hlen
    exact State.storedWater_toInt (by omega) (by omega)

/-! A filled window of at most 14 slots sums to `n` times the value, and the sum fits. -/

theorem State.storedHum_filled {s : State} {n : Nat} {v : BitVec 8} (hw : s.wHum = winFilled n v) (hn : n ≤ 14) :
    s.storedHum.toNat = n * v.toNat := by
  have hlen : s.wHum.length ≤ 14 := by rwa [hw, winFilled_length]
  rw [State.storedHum_toNat (Nat.lt_of_le_of_lt (winSumU_le_of_length hlen) (by decide)), hw, winSumU_winFilled]

theorem State.storedTemp_filled {s : State} {n : Nat} {v : BitVec 13} (hw : s.wTemp = winFilled n v) (hn : n ≤ 14) :
    s.storedTemp.toNat = n * v.toNat := by
  have hlen : s.wTemp.length ≤ 14 := by rwa [hw, winFilled_length]
  rw [State.storedTemp_toNat (Nat.lt_of_le_of_lt (winSumU_le_of_length hlen) (by decide)), hw, winSumU_winFilled]

theorem State.storedWater_filled {s : State} {n : Nat} {v : BitVec 8} (hw : s.wWater = winFilled n v) (hn : n ≤ 14) :
    s.storedWater.toInt = n * v.toInt := by
  obtain ⟨hlo, hhi⟩ := winSumS_mem_of_length (w := s.wWater) (by rwa [hw, winFilled_length])
  rw [State.storedWater_toInt (by omega) (by omega), hw, winSumS_winFilled]

/-- Settles O29: the average reads the window that the fill left. -/
theorem averageAfterFillIsTheValue : Obligations.AverageAfterFillIsTheValue := by
  intro w s hn
  refine ⟨_, _, exec_winFill w s, exec_winAvg w _, ?_⟩
  cases w
  case hum => exact (congrArg Nat.cast (State.storedHum_filled rfl hn)).trans (Nat.cast_mul _ _)
  case temp => exact (congrArg Nat.cast (State.storedTemp_filled rfl hn)).trans (Nat.cast_mul _ _)
  case water => exact State.storedWater_filled rfl hn

/-- After `k` shifts with `v 0`, `v 1`, … a window has dropped its `k` oldest slots and holds those values. -/
theorem winShifted_iterate {α : Type} {n : Nat} {v : Nat → α} {w : Nat → List α} (hn : (w 0).length = n)
    (hstep : ∀ k < n, w (k + 1) = winShifted (w k) (v k)) :
    ∀ k ≤ n, w k = (w 0).drop k ++ (List.range k).map v := by
  intro k hk
  induction k with
  | zero => simp
  | succ k ih =>
    have hne : (w 0).drop k ≠ [] := by
      rw [ne_eq, List.drop_eq_nil_iff]
      omega
    rw [hstep k hk, ih (by omega), winShifted, List.tail_append_of_ne_nil hne, List.tail_drop, List.range_succ,
      List.map_append, List.append_assoc]
    rfl

/-- Settles O30: `winShifted_iterate` with as many shifts as slots, which drop every old one. -/
theorem fourteenShiftsReplaceTheWindow : Obligations.FourteenShiftsReplaceTheWindow := by
  refine fun n σ => ⟨fun v hlen hrun => ?_, fun v hlen hrun => ?_, fun v hlen hrun => ?_⟩
  · have hstep k (hk : k < n) : (σ (k + 1)).wHum = winShifted (σ k).wHum (v k) :=
      congrArg State.wHum (Host.Outcome.next.inj (hrun k hk)).symm
    rw [winShifted_iterate (w := fun k => (σ k).wHum) hlen hstep n le_rfl, ← hlen, List.drop_length, List.nil_append]
  · have hstep k (hk : k < n) : (σ (k + 1)).wTemp = winShifted (σ k).wTemp (v k) :=
      congrArg State.wTemp (Host.Outcome.next.inj (hrun k hk)).symm
    rw [winShifted_iterate (w := fun k => (σ k).wTemp) hlen hstep n le_rfl, ← hlen, List.drop_length, List.nil_append]
  · have hstep k (hk : k < n) : (σ (k + 1)).wWater = winShifted (σ k).wWater (v k) :=
      congrArg State.wWater (Host.Outcome.next.inj (hrun k hk)).symm
    rw [winShifted_iterate (w := fun k => (σ k).wWater) hlen hstep n le_rfl, ← hlen, List.drop_length, List.nil_append]

/-! ## Water level (43_water_level.md) -/

theorem State.storedMap_toInt {s : State} (h : -128 ≤ waterMap s.par s.pins.adcVal)
    (h' : waterMap s.par s.pins.adcVal ≤ 127) : s.storedMap.toInt = waterMap s.par s.pins.adcVal :=
  toInt_orFreeInt_of_mem _ (by decide) ⟨by omega, by omega⟩

/-- With this hardware's parameters the mapping always fits. -/
theorem State.storedMap_toInt_hardware {s : State} (hp : s.par = .hardware) :
    s.storedMap.toInt = ((s.pins.adcVal.toNat * 100 / 1023 : Nat) : Int) - 1 := by
  obtain ⟨hlo, hhi⟩ := waterMap_bounds s.pins.adcVal
  rw [State.storedMap_toInt (by rw [hp]; omega) (by rw [hp]; omega), hp]
  rfl

/-- Settles O31: the mapping of R161, and its steps as arithmetic on the ten bits of the reading. -/
theorem wlSampleMapsTheReading : Obligations.WlSampleMapsTheReading := by
  refine fun s => ⟨s.storedMap, fun v hv hlo hhi => ?_, exec_wlSample s, fun hp => ?_⟩
  · subst hv
    exact State.storedMap_toInt hlo hhi
  · have hadc := s.pins.adcVal.isLt
    have hmap := State.storedMap_toInt_hardware hp
    omega

/-- Settles O32: the comparison of the live sum, and for one value `m` in 14 slots `14 m < 140`. -/
theorem wlEvalComparesTheLiveSum : Obligations.WlEvalComparesTheLiveSum := by
  refine fun s => ⟨s.waterLow_eq ▸ exec_wlEval s, fun m hp hw => ?_⟩
  have hsum : (s.wWater.map BitVec.toInt).sum = 14 * m.toInt := hw ▸ winSumS_winFilled 14 m
  rw [hsum, hp, show Params.hardware.nWin = 14 from rfl, show Params.hardware.waterThreshold = 10 from rfl]
  omega

/-! ## Controller (44_controller.md) -/

/-- Settles O33: the four ops' equations. -/
theorem setpointRefillAndCommitSteps : Obligations.SetpointRefillAndCommitSteps :=
  fun s => ⟨exec_dialRead s, exec_setLatch s, exec_ctlRefill s, exec_ctlCommit s⟩

/-- Settles O34: the fan's four cases are one value (`exec_ctlFan`). -/
theorem ctlFanFollowsTheSwitchPoint : Obligations.CtlFanFollowsTheSwitchPoint := exec_ctlFan

/-- Settles O35: the two sides of the edge. -/
theorem ctlEmptyStep : Obligations.CtlEmptyStep :=
  fun s => ⟨fun h => exec_ctlEmpty_idle (mt s.emptyEdge_iff.mp h),
    fun h => ⟨s.hold.opE, State.hold_opE_toNat, exec_ctlEmpty_alarm (s.emptyEdge_iff.mpr h)⟩⟩

/-! ## Timer (45_timer_sequencer.md) -/

/-- Settles O36: the four ops' equations. -/
theorem timerOpSteps : Obligations.TimerOpSteps :=
  fun s => ⟨s.tickDur, State.tickDur_toNat, exec_tmrStart s, exec_tmrStop s, exec_tmrReset s, exec_tmrRestart s⟩

theorem State.elapsed_of_run {s : State} (h : s.tmrRun = true) : s.elapsed = s.tmrAcc + (s.nowMs - s.tmrStart) := by
  rw [State.elapsed, if_pos h]

theorem State.elapsed_of_stopped {s : State} (h : s.tmrRun = false) : s.elapsed = s.tmrAcc := by
  simp [State.elapsed, h]

/-- `Remaining()` on naturals: what is left of the duration. -/
theorem State.remaining_toNat (s : State) : s.remaining.toNat = s.tmrDur.toNat - s.elapsed.toNat := by
  rw [State.remaining]
  split
  · rw [BitVec.ofNat_eq_ofNat, BitVec.toNat_zero]
    omega
  · rw [BitVec.toNat_sub_of_le (BitVec.le_def.mpr (by omega))]

theorem State.isElapsed_iff (s : State) : s.isElapsed = true ↔ s.tmrDur.toNat ≤ s.elapsed.toNat := decide_eq_true_iff

/-- `Elapsed()` on naturals (R200). -/
theorem State.elapsed_toNat (s : State) :
    s.elapsed.toNat = (s.tmrAcc.toNat +
      if s.tmrRun then (s.nowMs.toNat + 2 ^ 32 - s.tmrStart.toNat) % 2 ^ 32 else 0) % 2 ^ 32 := by
  have hstart := s.tmrStart.isLt
  cases hrun : s.tmrRun
  · rw [State.elapsed_of_stopped hrun, if_neg Bool.false_ne_true, Nat.add_zero, Nat.mod_eq_of_lt s.tmrAcc.isLt]
  · rw [State.elapsed_of_run hrun, BitVec.toNat_add, BitVec.toNat_sub, if_pos rfl]
    omega

/-- Settles O37: stopping moves the running part into the accumulated one, starting adds a running part of 0. -/
theorem timerOpsKeepOrClearElapsed : Obligations.TimerOpsKeepOrClearElapsed := by
  refine fun s t => ⟨fun h => ?stop, fun h => ?start, fun h => ?reset, fun h => ?restart⟩
  case stop =>
    obtain rfl := Host.Outcome.next.inj ((exec_tmrStop s).symm.trans h)
    exact (State.elapsed_of_stopped rfl).trans (by
      cases hrun : s.tmrRun
      · exact (State.elapsed_of_stopped hrun).symm
      · exact (State.elapsed_of_run hrun).symm)
  case start =>
    obtain rfl := Host.Outcome.next.inj ((exec_tmrStart s).symm.trans h)
    cases hrun : s.tmrRun
    · rw [State.elapsed_of_stopped hrun, State.elapsed_of_run rfl]
      simp
    · rw [State.elapsed_of_run hrun, State.elapsed_of_run rfl]
      simp
  case reset =>
    obtain rfl := Host.Outcome.next.inj ((exec_tmrReset s).symm.trans h)
    simp [State.elapsed]
  case restart =>
    obtain rfl := Host.Outcome.next.inj ((exec_tmrRestart s).symm.trans h)
    have hzero : ({ s with
        tmrDur := s.tickDur, tmrAcc := 0, tmrStart := s.nowMs, tmrRun := true, opE := 0, upc := s.upc + 1 } :
        State).elapsed = 0 := by
      simp [State.elapsed]
    refine ⟨hzero, fun ⟨hpos, hfit⟩ => ?_⟩
    have hdur := State.tickDur_toNat hfit
    rw [State.remaining_toNat, Bool.eq_false_iff, ne_eq, State.isElapsed_iff, hzero]
    simp only [hdur, BitVec.ofNat_eq_ofNat, BitVec.toNat_zero]
    omega

/-- Settles O38: with nothing accumulated the elapsed time is the difference modulo 2^32, which is `d`. -/
theorem elapsedIsRightAcrossTheWrap : Obligations.ElapsedIsRightAcrossTheWrap := by
  intro s d hd hrun hacc hnow
  have hstart := s.tmrStart.isLt
  have helapsed : s.elapsed.toNat = d := by
    rw [State.elapsed_toNat, if_pos hrun, hacc, hnow, BitVec.ofNat_eq_ofNat, BitVec.toNat_zero]
    omega
  exact ⟨helapsed, helapsed ▸ s.isElapsed_iff, helapsed ▸ s.remaining_toNat⟩

/-- Settles O39: the test of R206 with `Elapsed()` on naturals. -/
theorem brNotElapsedTestsTheTimer : Obligations.BrNotElapsedTestsTheTimer := by
  intro x s
  simp only [exec_brNotElapsed, State.isElapsed_iff, State.elapsed_toNat]

end Sys2Proof.Machine

/-! PROOFS. Who writes what (10_state.md), how an op ends (R38, R39), and what a step adds to it: time, reset and the
fault state. -/

namespace Sys2Proof.Machine

/-! ## Who writes what -/

/-- `s` with every register that one step of the op may write taken from `t`: the table of writers, register by
register. -/
def State.writtenBy (i : Instr) (s t : State) : State := { s with
  dhtOe := if i = .dhtStart ∨ i = .dhtWake ∨ i = .dhtRelease then t.dhtOe else s.dhtOe
  dhtO := if i = .dhtStart ∨ i = .dhtWake then t.dhtO else s.dhtO
  frame := if i = .dhtStart ∨ i = .dhtSample then t.frame else s.frame
  bitcnt := if i = .dhtStart ∨ i = .dhtSample then t.bitcnt else s.bitcnt
  decTo := if i = .dhtStart ∨ i = .dhtSample then t.decTo else s.decTo
  decI := if i = .dhtRelease ∨ i = .dhtSample then t.decI else s.decI
  decCnt := if i = .dhtRelease ∨ i = .dhtSample then t.decCnt else s.decCnt
  decLast := if i = .dhtRelease ∨ i = .dhtSample then t.decLast else s.decLast
  rdValid := if i = .dhtCheck then t.rdValid else s.rdValid
  decStatus := if i = .dhtCheck then t.decStatus else s.decStatus
  errTo := if i = .dhtCheck then t.errTo else s.errTo
  errCk := if i = .dhtCheck then t.errCk else s.errCk
  rdHum := if i = .dhtConvert then t.rdHum else s.rdHum
  rdTemp10 := if i = .dhtConvert then t.rdTemp10 else s.rdTemp10
  fanOn := if i = .ctlFan ∨ i = .ctlEmpty then t.fanOn else s.fanOn
  outOfWater := if i = .wlEval then t.outOfWater else s.outOfWater
  lastOutOfWater := if i = .ctlCommit then t.lastOutOfWater else s.lastOutOfWater
  setHum10 := if i = .setLatch then t.setHum10 else s.setHum10
  dial10 := if i = .dialRead then t.dial10 else s.dial10
  led := if i = .ctlRefill ∨ i = .ctlEmpty then t.led else s.led
  alm := if i = .ctlEmpty then t.alm else s.alm
  wlRaw := if i = .wlSample then t.wlRaw else s.wlRaw
  wlMapped := if i = .wlSample then t.wlMapped else s.wlMapped
  wHum := if i = .winFill .hum ∨ i = .winShift .hum then t.wHum else s.wHum
  wTemp := if i = .winFill .temp ∨ i = .winShift .temp then t.wTemp else s.wTemp
  wWater := if i = .winFill .water ∨ i = .winShift .water then t.wWater else s.wWater
  sumHum := if i = .winAvg .hum then t.sumHum else s.sumHum
  sumTemp := if i = .winAvg .temp then t.sumTemp else s.sumTemp
  sumWater := if i = .winAvg .water then t.sumWater else s.sumWater
  tmrDur := if i = .tmrRestart then t.tmrDur else s.tmrDur
  tmrStart := if i = .tmrStart ∨ i = .tmrReset ∨ i = .tmrRestart then t.tmrStart else s.tmrStart
  tmrAcc := if i = .tmrStop ∨ i = .tmrReset ∨ i = .tmrRestart then t.tmrAcc else s.tmrAcc
  tmrRun := if i = .tmrStart ∨ i = .tmrStop ∨ i = .tmrRestart then t.tmrRun else s.tmrRun
  opE := t.opE
  upc := t.upc }

theorem exec_unique {i : Instr} {s t u : State} (hu : exec i s = .next u) (h : exec i s = .next t) : t = u :=
  Host.Outcome.next.inj (h.symm.trans hu)

/-- Every op writes its own registers of the table and no others. -/
theorem exec_writes {i : Instr} {s t : State} (h : exec i s = .next t) : t = State.writtenBy i s t := by
  have writes {u : State} (hu : exec i s = .next u) (hw : u = State.writtenBy i s u) : t = State.writtenBy i s t :=
    exec_unique hu h ▸ hw
  cases i
  case dhtStart => exact writes (exec_dhtStart s) rfl
  case dhtWake => exact writes (exec_dhtWake s) rfl
  case dhtSample =>
    by_cases hline : s.pins.dhtI = s.decLast
    · refine writes (exec_dhtSample_same hline) ?_
      by_cases hlast : s.decCnt.toNat + 1 = s.par.timeoutCount
      · rw [State.sampleSame_timeout hlast]; rfl
      · rw [State.sampleSame_more hlast]; rfl
    · exact writes (exec_dhtSample_change hline) (by rw [s.sampleChange_eq]; rfl)
  case dhtCheck => exact writes (exec_dhtCheck s) rfl
  case dhtConvert => exact writes (exec_dhtConvert s) rfl
  case winFill w => exact writes (exec_winFill w s) (by cases w <;> rfl)
  case winShift w => exact writes (exec_winShift w s) (by cases w <;> rfl)
  case winAvg w => exact writes (exec_winAvg w s) (by cases w <;> rfl)
  case ctlFan => exact writes (exec_ctlFan s) rfl
  case ctlRefill => exact writes (exec_ctlRefill s) rfl
  case ctlEmpty =>
    by_cases hedge : s.emptyEdge = true
    · exact writes (exec_ctlEmpty_alarm hedge) rfl
    · exact writes (exec_ctlEmpty_idle hedge) rfl
  case tmrStart => exact writes (exec_tmrStart s) rfl
  case tmrStop => exact writes (exec_tmrStop s) rfl
  case brNotElapsed x => exact writes (exec_brNotElapsed x s) rfl
  case brDecFail x => exact writes (exec_brDecFail x s) rfl
  case wait w => exact writes (exec_wait w s) rfl
  all_goals exact writes rfl rfl

/-- Settles O13: these fields stand in no row of the table. -/
theorem opsLeaveTimeFaultAndRom : Obligations.OpsLeaveTimeFaultAndRom := by
  intro i s t h
  rw [exec_writes h]
  exact ⟨rfl, rfl, rfl, rfl, rfl, rfl, rfl⟩

theorem exec_faulted {i : Instr} {s t : State} (h : exec i s = .next t) : t.faulted = s.faulted := by
  rw [exec_writes h]
  rfl

theorem exec_par {i : Instr} {s t : State} (h : exec i s = .next t) : t.par = s.par := by
  rw [exec_writes h]
  rfl

theorem exec_rom {i : Instr} {s t : State} (h : exec i s = .next t) : t.rom = s.rom := by
  rw [exec_writes h]
  rfl

/-- Settles O15: the two rows of the line. -/
theorem onlyHandshakeOpsDriveTheLine : Obligations.OnlyHandshakeOpsDriveTheLine := by
  intro i s t h hstart hwake hrelease
  have hw := exec_writes h
  exact ⟨(congrArg State.dhtOe hw).trans (if_neg (by simp [hstart, hwake, hrelease])),
    (congrArg State.dhtO hw).trans (if_neg (by simp [hstart, hwake]))⟩

/-- Settles O16: the decoder's rows. -/
theorem decoderRegistersHaveTheirWriters : Obligations.DecoderRegistersHaveTheirWriters := by
  intro i s t h
  have hw := exec_writes h
  refine ⟨fun h1 h2 => ?frame, fun h1 h2 => ?working, fun h1 => ?status, fun h1 => ?reading⟩
  case frame =>
    have hi : ¬(i = .dhtStart ∨ i = .dhtSample) := by simp [h1, h2]
    exact ⟨(congrArg State.frame hw).trans (if_neg hi), (congrArg State.bitcnt hw).trans (if_neg hi),
      (congrArg State.decTo hw).trans (if_neg hi)⟩
  case working =>
    have hi : ¬(i = .dhtRelease ∨ i = .dhtSample) := by simp [h1, h2]
    exact ⟨(congrArg State.decI hw).trans (if_neg hi), (congrArg State.decCnt hw).trans (if_neg hi),
      (congrArg State.decLast hw).trans (if_neg hi)⟩
  case status =>
    exact ⟨(congrArg State.rdValid hw).trans (if_neg h1), (congrArg State.decStatus hw).trans (if_neg h1),
      (congrArg State.errTo hw).trans (if_neg h1), (congrArg State.errCk hw).trans (if_neg h1)⟩
  case reading =>
    exact ⟨(congrArg State.rdHum hw).trans (if_neg h1), (congrArg State.rdTemp10 hw).trans (if_neg h1)⟩

/-- Settles O17: the controller's rows. -/
theorem controllerRegistersHaveTheirWriters : Obligations.ControllerRegistersHaveTheirWriters := by
  intro i s t h
  have hw := exec_writes h
  exact ⟨fun h1 h2 => (congrArg State.fanOn hw).trans (if_neg (by simp [h1, h2])),
    fun h1 => (congrArg State.outOfWater hw).trans (if_neg h1),
    fun h1 => (congrArg State.lastOutOfWater hw).trans (if_neg h1),
    fun h1 => (congrArg State.setHum10 hw).trans (if_neg h1),
    fun h1 => (congrArg State.dial10 hw).trans (if_neg h1),
    fun h1 h2 => (congrArg State.led hw).trans (if_neg (by simp [h1, h2])),
    fun h1 => (congrArg State.alm hw).trans (if_neg h1),
    fun h1 => ⟨(congrArg State.wlRaw hw).trans (if_neg h1), (congrArg State.wlMapped hw).trans (if_neg h1)⟩⟩

/-- Settles O18: the rows of the windows, the sums and the Timer. -/
theorem windowsAndTimerHaveTheirWriters : Obligations.WindowsAndTimerHaveTheirWriters := by
  intro i s t h
  have hw := exec_writes h
  exact ⟨fun h1 h2 => (congrArg State.wHum hw).trans (if_neg (by simp [h1, h2])),
    fun h1 h2 => (congrArg State.wTemp hw).trans (if_neg (by simp [h1, h2])),
    fun h1 h2 => (congrArg State.wWater hw).trans (if_neg (by simp [h1, h2])),
    fun h1 => (congrArg State.sumHum hw).trans (if_neg h1),
    fun h1 => (congrArg State.sumTemp hw).trans (if_neg h1),
    fun h1 => (congrArg State.sumWater hw).trans (if_neg h1),
    fun h1 h2 h3 h4 => ⟨(congrArg State.tmrDur hw).trans (if_neg h4),
      (congrArg State.tmrStart hw).trans (if_neg (by simp [h1, h3, h4])),
      (congrArg State.tmrAcc hw).trans (if_neg (by simp [h2, h3, h4])),
      (congrArg State.tmrRun hw).trans (if_neg (by simp [h1, h2, h4]))⟩⟩

/-! ## How an op ends (R38, R39) -/

/-- The steps of a multi-step op, but for DHT_SAMPLE, which has no fixed number of them. -/
def opSteps (p : Params) : Instr → Option Nat
  | .dhtStart => some p.tStartLowUs
  | .dhtWake => some p.tStartHighUs
  | .ctlEmpty => some p.tAlarmUs
  | .wait w => some (waitSteps p w)
  | _ => none

/-- The op completes. -/
def Completes (s t : State) : Prop := t.opE = 0 ∧ t.upc = s.upc + 1

/-- The op goes on: `upc` stays and the step is counted, which only a multi-step op does, and not in its last step. -/
def GoesOn (i : Instr) (s t : State) : Prop :=
  t.opE = s.hold.opE ∧ t.upc = s.upc ∧ (i = .ctlEmpty → s.emptyEdge = true) ∧
    (i = .dhtSample ∨ ∃ d, opSteps s.par i = some d ∧ s.opE.toNat + 1 ≠ d)

/-- The three ways an op's step can leave the sequencer. -/
theorem exec_flow {i : Instr} {s t : State} (h : exec i s = .next t) :
    Completes s t ∨ (t.opE = 0 ∧ Instr.target i = some t.upc) ∨ GoesOn i s t := by
  have completes {u : State} (hu : exec i s = .next u) (hE : u.opE = 0) (hupc : u.upc = s.upc + 1) :
      Completes s t ∨ (t.opE = 0 ∧ Instr.target i = some t.upc) ∨ GoesOn i s t :=
    .inl (exec_unique hu h ▸ ⟨hE, hupc⟩)
  have counts {u : State} {d : Nat} (hu : exec i s = .next u) (hd : opSteps s.par i = some d)
      (hempty : i = .ctlEmpty → s.emptyEdge = true) (hE : u.opE = if s.opE.toNat + 1 = d then 0 else s.hold.opE)
      (hupc : u.upc = if s.opE.toNat + 1 = d then s.upc + 1 else s.upc) :
      Completes s t ∨ (t.opE = 0 ∧ Instr.target i = some t.upc) ∨ GoesOn i s t := by
    rw [exec_unique hu h]
    by_cases hlast : s.opE.toNat + 1 = d
    · exact .inl ⟨hE.trans (if_pos hlast), hupc.trans (if_pos hlast)⟩
    · exact .inr (.inr ⟨hE.trans (if_neg hlast), hupc.trans (if_neg hlast), hempty, .inr ⟨d, hd, hlast⟩⟩)
  cases i
  case dhtStart => exact counts (exec_dhtStart s) rfl (nomatch ·) rfl rfl
  case dhtWake => exact counts (exec_dhtWake s) rfl (nomatch ·) rfl rfl
  case wait w => exact counts (exec_wait w s) rfl (nomatch ·) rfl rfl
  case ctlEmpty =>
    by_cases hedge : s.emptyEdge = true
    · exact counts (exec_ctlEmpty_alarm hedge) rfl (fun _ => hedge) rfl rfl
    · exact completes (exec_ctlEmpty_idle hedge) rfl rfl
  case dhtSample =>
    by_cases hline : s.pins.dhtI = s.decLast
    · rw [exec_unique (exec_dhtSample_same hline) h]
      by_cases hlast : s.decCnt.toNat + 1 = s.par.timeoutCount
      · rw [State.sampleSame_timeout hlast]
        exact .inl ⟨rfl, rfl⟩
      · rw [State.sampleSame_more hlast]
        exact .inr (.inr ⟨rfl, rfl, (nomatch ·), .inl rfl⟩)
    · rw [exec_unique (exec_dhtSample_change hline) h]
      by_cases hlast : s.decI.toNat + 1 = s.par.maxTimings
      · exact .inl (State.sampleChange_last _ hlast)
      · obtain ⟨hupc, hopE⟩ := State.sampleChange_more s.pins.dhtI hlast
        exact .inr (.inr ⟨hopE, hupc, (nomatch ·), .inl rfl⟩)
  case brNotElapsed x =>
    rw [exec_unique (exec_brNotElapsed x s) h]
    by_cases helapsed : s.isElapsed = true
    · exact .inl ⟨rfl, if_pos helapsed⟩
    · exact .inr (.inl ⟨rfl, congrArg some (if_neg helapsed).symm⟩)
  case brDecFail x =>
    rw [exec_unique (exec_brDecFail x s) h]
    by_cases hfail : s.rdValid = false
    · exact .inr (.inl ⟨rfl, congrArg some (if_pos hfail).symm⟩)
    · exact .inl ⟨rfl, if_neg hfail⟩
  case jmp x =>
    rw [exec_unique (exec_jmp x s) h]
    exact .inr (.inl ⟨rfl, rfl⟩)
  case dhtCheck => exact completes (exec_dhtCheck s) rfl rfl
  case dhtConvert => exact completes (exec_dhtConvert s) rfl rfl
  case winFill w => exact completes (exec_winFill w s) rfl rfl
  case winShift w => exact completes (exec_winShift w s) rfl rfl
  case winAvg w => exact completes (exec_winAvg w s) rfl rfl
  case ctlFan => exact completes (exec_ctlFan s) rfl rfl
  case ctlRefill => exact completes (exec_ctlRefill s) rfl rfl
  case tmrStart => exact completes (exec_tmrStart s) rfl rfl
  case tmrStop => exact completes (exec_tmrStop s) rfl rfl
  all_goals exact completes rfl rfl rfl

theorem opSteps_isSome {p : Params} {i : Instr} {d : Nat} (h : opSteps p i = some d) :
    i = .dhtStart ∨ i = .dhtWake ∨ i = .ctlEmpty ∨ ∃ w, i = .wait w := by
  cases i <;> simp_all [opSteps]

/-- Settles O14: only an op with a step count can go on. -/
theorem singleStepOpsComplete : Obligations.SingleStepOpsComplete := by
  intro i s t h
  rcases exec_flow h with ⟨hE, hu⟩ | ⟨hE, htarget⟩ | ⟨-, -, hempty, hsample | ⟨d, hd, -⟩⟩
  · exact .inr ⟨hE, .inl hu⟩
  · refine .inr ⟨hE, .inr ⟨t.upc, rfl, ?_⟩⟩
    rcases Instr.target_eq_some.mp htarget with hi | hi | hi
    · exact .inr (.inr hi)
    · exact .inr (.inl hi)
    · exact .inl hi
  · exact .inl (.inr (.inr (.inl hsample)))
  · rcases opSteps_isSome hd with hi | hi | hi | hi
    · exact .inl (.inl hi)
    · exact .inl (.inr (.inl hi))
    · exact .inl (.inr (.inr (.inr (.inl ⟨hi, hempty hi⟩))))
    · exact .inl (.inr (.inr (.inr (.inr hi))))

end Sys2Proof.Machine

/-! PROOFS. What a step adds to its op: time (10_state.md R40), reset (70_reset_and_hazards.md R260) and the fault state
(60_exceptions.md R233, R234); and what the outside sees of a state (10_state.md R42, R46). -/

namespace Sys2Proof.Machine

/-! ## The end of a step (R40) -/

theorem State.endStep_eq (s : State) :
    s.endStep = { s with
      tUs := if s.tUs.val = 999 then 0 else s.tUs + 1
      nowMs := if s.tUs.val = 999 then s.nowMs + 1 else s.nowMs
      script := s.script.tail, draws := s.draws + 1 } := by
  simp only [State.endStep, State.advanceTime, State.nextDraw, Nat.succ.injEq]

/-- The two time counters together count one step, modulo 2^32 milliseconds. -/
theorem State.stepCount_endStep (s : State) : s.endStep.stepCount = (s.stepCount + 1) % (1000 * 2 ^ 32) := by
  have hms := s.nowMs.isLt
  have hus : s.tUs.val < 1000 := s.tUs.isLt
  rw [State.endStep_eq]
  simp only [State.stepCount]
  by_cases hwrap : s.tUs.val = 999
  · simp only [if_pos hwrap, BitVec.toNat_add, BitVec.ofNat_eq_ofNat, BitVec.toNat_ofNat, Fin.val_zero]
    omega
  · have hnext : (s.tUs + 1).val = s.tUs.val + 1 := by
      rw [Fin.val_add]
      exact Nat.mod_eq_of_lt (by show s.tUs.val + 1 < 1000; omega)
    simp only [if_neg hwrap, hnext]
    omega

theorem State.stepCount_congr {s t : State} (hms : t.nowMs = s.nowMs) (hus : t.tUs = s.tUs) :
    t.stepCount = s.stepCount := by
  rw [State.stepCount, State.stepCount, hms, hus]

/-- Whatever a reset-free step does, it ends like every other: its op leaves time and the environment alone. -/
theorem step_eq_endStep {s t : State} (hr : s.pins.rst = false) (h : step s = .next t) :
    ∃ u : State, t = u.endStep ∧ u.tUs = s.tUs ∧ u.nowMs = s.nowMs ∧ u.script = s.script ∧ u.draws = s.draws := by
  rcases step_cases h with ⟨hr', -⟩ | ⟨-, -, ht⟩ | ⟨-, -, -, ht⟩ | ⟨-, i, u, -, hu, ht⟩
  · exact absurd (hr.symm.trans hr') Bool.false_ne_true
  · exact ⟨s, ht, rfl, rfl, rfl, rfl⟩
  · exact ⟨s.faultEntry, ht, rfl, rfl, rfl, rfl⟩
  · obtain ⟨hus, hms, -, -, -, hscript, hdraws⟩ := opsLeaveTimeFaultAndRom i s u hu
    exact ⟨u, ht, hus, hms, hscript, hdraws⟩

theorem step_stepCount {s t : State} (hr : s.pins.rst = false) (h : step s = .next t) :
    t.stepCount = (s.stepCount + 1) % (1000 * 2 ^ 32) := by
  obtain ⟨u, rfl, hus, hms, -⟩ := step_eq_endStep hr h
  rw [State.stepCount_endStep, State.stepCount_congr hms hus]

/-- After a reset-free step the rest of a reset-free stretch is reset-free. -/
theorem NoReset.step {s t : State} {n : Nat} (hn : NoReset s (n + 1)) (h : step s = .next t) : NoReset t n := by
  obtain ⟨u, rfl, -, -, hscript, hdraws⟩ := step_eq_endStep hn.now h
  exact hn.tail (congrArg List.tail hscript) (congrArg (· + 1) hdraws)

theorem step_next (s : State) : ∃ t, step s = .next t := by
  by_cases hr : s.pins.rst = true
  · exact ⟨_, if_pos hr⟩
  · by_cases hf : s.faulted = true
    · exact ⟨_, (if_neg hr).trans (if_pos hf)⟩
    · cases hfetch : s.fetch with
      | none => exact ⟨s.faultEntry.endStep, by simp [step, hr, hf, hfetch]⟩
      | some i =>
        obtain ⟨u, hu⟩ := exec_next i s
        exact ⟨u.endStep, step_of_atOp (by simpa using hr) ⟨by simpa using hf, hfetch⟩ hu⟩

theorem step_of_illegal {s : State} (hr : s.pins.rst = false) (hf : s.faulted = false) (hn : s.fetch = none) :
    step s = .next s.faultEntry.endStep := by
  simp [step, hr, hf, hn]

theorem step_of_faulted {s : State} (hr : s.pins.rst = false) (hf : s.faulted = true) : step s = .next s.endStep := by
  simp [step, hr, hf]

/-! ## The obligations about one step -/

/-- Settles O6: the op's step and then the end of the step, whose time counters the op has left alone. -/
theorem stepRunsTheFetchedOp : Obligations.StepRunsTheFetchedOp := by
  intro s i hr hf hdec
  obtain ⟨t, ht⟩ := exec_next i s
  obtain ⟨hus, hms, -, -, -, hscript, hdraws⟩ := opsLeaveTimeFaultAndRom i s t ht
  refine ⟨t, ht, ?_⟩
  rw [step_of_atOp hr ⟨hf, hdec⟩ ht, State.endStep_eq, hus, hms, hscript, hdraws]

/-- Settles O7: `rst` is tested first, and `tickDur` is the reset value of `tmr_dur`. -/
theorem resetStepOverridesEverything : Obligations.ResetStepOverridesEverything :=
  fun s hr => ⟨s.tickDur, State.tickDur_toNat, if_pos hr⟩

/-- Settles O10: the decoder refuses the word, and the fault entry is all that happens. -/
theorem illegalWordEntersTheFaultState : Obligations.IllegalWordEntersTheFaultState := by
  intro s hr hf hill
  rw [step_of_illegal hr hf ((decode_eq_none_iff_illegalWord _).mpr hill), State.endStep_eq]
  rfl

/-- Settles O11: `step_next`, since no op answers anything but a next state. -/
theorem everyStepHasANextState : Obligations.EveryStepHasANextState := step_next

/-- Settles O9, step by step: a step of the fault state is the end of a step and nothing else. -/
theorem faultStateLetsOnlyTimePass : Obligations.FaultStateLetsOnlyTimePass := by
  intro n
  induction n with
  | zero =>
    intro s _ _
    have hms := s.nowMs.isLt
    have hus : s.tUs.val < 1000 := s.tUs.isLt
    refine ⟨s, State.run_zero s, rfl, ?_⟩
    rw [State.stepCount]
    omega
  | succ n ih =>
    intro s hn hf
    have hstep := step_of_faulted hn.now hf
    obtain ⟨t, hrun, ht, hcount⟩ := ih s.endStep (hn.step hstep) hf
    refine ⟨t, (State.run_succ n hstep).trans hrun, ht.trans ?_, ?_⟩
    · simp [State.endStep_eq, Nat.add_assoc, Nat.add_comm 1]
    · rw [hcount, State.stepCount_endStep]
      omega

/-- Settles O12: each step counts one, and the two counters are quotient and remainder of the count. -/
theorem runOfStepsTakesThatManyMicroseconds : Obligations.RunOfStepsTakesThatManyMicroseconds := by
  have hcount : ∀ (n : Nat) (s t : State), NoReset s n → s.run n = .next t →
      t.stepCount = (s.stepCount + n) % (1000 * 2 ^ 32) := by
    intro n
    induction n with
    | zero =>
      intro s t _ h
      obtain rfl := Host.Outcome.next.inj h
      have hms := s.nowMs.isLt
      have hus : s.tUs.val < 1000 := s.tUs.isLt
      rw [State.stepCount]
      omega
    | succ n ih =>
      intro s t hn h
      obtain ⟨u, hstep⟩ := step_next s
      rw [State.run_succ n hstep] at h
      rw [ih u t (hn.step hstep) h, step_stepCount hn.now hstep]
      omega
  refine fun n s t hn h => ⟨hcount n s t hn h, fun hzero => ?_⟩
  have htotal := hcount n s t hn h
  have hus : t.tUs.val < 1000 := t.tUs.isLt
  rw [hzero, State.stepCount] at htotal
  omega

/-! ## The fault state and the reset state as invariants -/

/-- Settles O56: the fault entry makes everything safe, time leaves it so, and no op runs in the fault state. -/
theorem faultStateIsFailSafe : Obligations.FaultStateIsFailSafe := by
  intro s t hs h
  rcases step_cases h with ⟨-, rfl⟩ | ⟨-, -, rfl⟩ | ⟨-, -, -, rfl⟩ | ⟨-, i, u, ⟨hf, -⟩, hu, rfl⟩
  · exact fun hfault => absurd hfault Bool.false_ne_true
  · exact hs
  · exact fun _ => ⟨rfl, rfl, rfl, rfl⟩
  · exact fun hfault => absurd (((exec_faulted hu).trans hf).symm.trans hfault) Bool.false_ne_true

theorem State.reset_inProgram : InProgram State.reset := ⟨rfl, rfl, by decide⟩

theorem State.reset_countersOk : CountersOk State.reset :=
  ⟨State.reset_inProgram, rfl, by decide, by decide, by decide, fun _ => ⟨rfl, rfl⟩, fun h => absurd h (by decide)⟩

theorem State.reset_rangesOk : RangesOk State.reset := by
  refine ⟨⟨by decide, rfl, rfl, rfl⟩, .inl rfl, by decide, fun v hv => ?_, by decide⟩
  rw [List.eq_of_mem_replicate hv]
  exact Nat.zero_le _

/-- Settles O57: each clause holds of the values of R45. -/
theorem resetMeetsTheInvariants : Obligations.ResetMeetsTheInvariants := by
  refine ⟨State.reset_inProgram, State.reset_countersOk, ⟨State.reset_countersOk, fun h => absurd h (by decide)⟩,
    ⟨State.reset_countersOk, ?_⟩, State.reset_rangesOk, fun h => absurd h (by decide), Memory.wf_nil, rfl, by decide⟩
  exact ⟨fun _ => ⟨rfl, fun _ => rfl⟩, fun _ _ _ => rfl, fun h => absurd h (by decide), fun _ _ => rfl,
    fun h => absurd h (by decide), fun _ => ⟨rfl, rfl, rfl, rfl⟩⟩

/-! ## What the outside sees (10_state.md R42, R46) -/

/-- The status view from 0x13 on: the three windows, and 0 elsewhere. -/
theorem State.statusRead_of_ge {s : State} {x : BitVec 8} (h : 0x13 ≤ x.toNat) :
    s.statusRead x =
      if x.toNat < 0x20 then 0
      else if x.toNat < 0x30 then s.slotWord s.wHum (fun v => v.setWidth 32) 0x20 x.toNat
      else if x.toNat < 0x40 then s.slotWord s.wTemp (fun v => v.setWidth 32) 0x30 x.toNat
      else if x.toNat < 0x50 then s.slotWord s.wWater (fun v => v.signExtend 32) 0x40 x.toNat
      else 0 := by
  unfold State.statusRead
  split
  case h_20 => rfl
  all_goals omega

/-- A listed slot that the window has. -/
theorem State.slotWord_of_slot {n : Nat} (s : State) {w : List (BitVec n)} {widen : BitVec n → StatWord} {base k : Nat}
    {v : BitVec n} (hk : k < 14) (hv : w[k]? = some v) : s.slotWord w widen base (base + k) = widen v := by
  rw [State.slotWord, if_pos ⟨Nat.le_add_right _ _, Nat.add_lt_add_left hk _⟩, Nat.add_sub_cancel_left, hv]
  rfl

/-- An index that the map gives no slot of the window. -/
theorem State.slotWord_of_gap {n : Nat} (s : State) (w : List (BitVec n)) (widen : BitVec n → StatWord) {base i : Nat}
    (h : ∀ k < 14, i ≠ base + k) : s.slotWord w widen base i = 0 :=
  if_neg fun ⟨hlo, hhi⟩ => h (i - base) (Nat.sub_lt_left_of_lt_add hlo hhi) (Nat.add_sub_cancel' hlo).symm

/-- Settles O59: the three windows slot by slot, and the gaps between and after them. -/
theorem statusViewShowsTheWindows : Obligations.StatusViewShowsTheWindows := by
  refine fun s => ⟨fun k hk => ?slots, fun x hx hgap => ?gaps⟩
  case slots =>
    have hindex (base : Nat) (hbase : base ≤ 0x40) : (BitVec.ofNat 8 (base + k)).toNat = base + k := by
      rw [BitVec.toNat_ofNat]
      omega
    refine ⟨fun v hv => ?_, fun v hv => ?_, fun v hv => ?_⟩
    · have hi := hindex 0x20 (by decide)
      rw [State.statusRead_of_ge (by omega), hi, if_neg (by omega), if_pos (by omega), State.slotWord_of_slot s hk hv,
        BitVec.toNat_setWidth_of_le (by decide)]
    · have hi := hindex 0x30 (by decide)
      rw [State.statusRead_of_ge (by omega), hi, if_neg (by omega), if_neg (by omega), if_pos (by omega),
        State.slotWord_of_slot s hk hv, BitVec.toNat_setWidth_of_le (by decide)]
    · have hi := hindex 0x40 (by decide)
      rw [State.statusRead_of_ge (by omega), hi, if_neg (by omega), if_neg (by omega), if_neg (by omega),
        if_pos (by omega), State.slotWord_of_slot s hk hv, BitVec.toInt_signExtend_of_le (by decide)]
  case gaps =>
    have hhum : ∀ k < 14, x.toNat ≠ 0x20 + k := fun k hk => have ⟨h, _, _⟩ := hgap k hk; h
    have htemp : ∀ k < 14, x.toNat ≠ 0x30 + k := fun k hk => have ⟨_, h, _⟩ := hgap k hk; h
    have hwater : ∀ k < 14, x.toNat ≠ 0x40 + k := fun k hk => have ⟨_, _, h⟩ := hgap k hk; h
    rw [State.statusRead_of_ge hx, State.slotWord_of_gap s s.wHum _ hhum, State.slotWord_of_gap s s.wTemp _ htemp,
      State.slotWord_of_gap s s.wWater _ hwater]
    simp only [ite_self]

theorem State.adcRd_iff (s : State) : s.adcRd = true ↔ s.pins.rst = false ∧ AtOp s .wlSample := by
  simp [State.adcRd, AtOp, and_assoc]

/-- Settles O60: every pin is its register but the strobe, which is `adcRd_iff`. -/
theorem outputPinsShowTheRegisters : Obligations.OutputPinsShowTheRegisters :=
  ⟨fun s => ⟨rfl, rfl, rfl, rfl, rfl, rfl, s.adcRd_iff, rfl, rfl⟩, rfl, rfl, rfl, rfl, rfl, rfl⟩

end Sys2Proof.Machine

/-! PROOFS. The normative microprogram's flow (45_timer_sequencer.md R215, R216) and what every step of it keeps: the
program, the counters (70_reset_and_hazards.md R280) and the released line (41_frame_decoder.md R130). -/

namespace Sys2Proof.Machine

/-! ## Which op stands where (R215) -/

theorem programOp_eq_dhtStart {k : Nat} (hk : k ≤ lastUsedIndex) : programOp k = .dhtStart ↔ k = 0x05 ∨ k = 0x1A := by
  revert k; decide

theorem programOp_eq_dhtWake {k : Nat} (hk : k ≤ lastUsedIndex) : programOp k = .dhtWake ↔ k = 0x06 ∨ k = 0x1B := by
  revert k; decide

theorem programOp_eq_dhtRelease {k : Nat} (hk : k ≤ lastUsedIndex) :
    programOp k = .dhtRelease ↔ k = 0x07 ∨ k = 0x1C := by
  revert k; decide

theorem programOp_eq_dhtSample {k : Nat} (hk : k ≤ lastUsedIndex) :
    programOp k = .dhtSample ↔ k = 0x08 ∨ k = 0x1D := by
  revert k; decide

/-- At an index that holds a multi-step op of `d` steps the counter may reach `d - 1`. -/
theorem opCountLimit_of_opSteps {k d : Nat} (hk : k ≤ lastUsedIndex) (h : opSteps .hardware (programOp k) = some d) :
    opCountLimit k + 1 = d := by
  have hall : ∀ j ≤ lastUsedIndex, ∀ e ∈ opSteps .hardware (programOp j), opCountLimit j + 1 = e := by decide
  exact hall k hk d h

theorem opCountLimit_le (k : Nat) : opCountLimit k ≤ 2999999 := by
  unfold opCountLimit
  split_ifs <;> decide

/-! ## The flow of the microprogram (R216) -/

/-- The indices that can follow one another: the next one, and the six branches. -/
def NextIndex (k k' : Nat) : Prop :=
  (k < lastUsedIndex ∧ k' = k + 1) ∨ (k = 0x0B ∧ k' = 0x12) ∨ (k = 0x11 ∧ k' = 0x14) ∨ (k = 0x13 ∧ k' = 0x05) ∨
    (k = 0x15 ∧ k' = 0x2B) ∨ (k = 0x20 ∧ k' = 0x23) ∨ (k = 0x2C ∧ k' = 0x14)

theorem nextIndex_of_target {k : Nat} {t : BitVec 8} (hk : k ≤ lastUsedIndex)
    (h : Instr.target (programOp k) = some t) : NextIndex k t.toNat := by
  have hall : ∀ j ≤ lastUsedIndex, ∀ u ∈ Instr.target (programOp j),
      (j, u.toNat) ∈ [(0x0B, 0x12), (0x11, 0x14), (0x13, 0x05), (0x15, 0x2B), (0x20, 0x23), (0x2C, 0x14)] := by decide
  exact .inr (by simpa using hall k hk t h)

theorem NextIndex.le {k k' : Nat} (h : NextIndex k k') : k' ≤ lastUsedIndex := by
  unfold NextIndex lastUsedIndex at *
  omega

theorem InProgram.upc_le {s : State} (h : InProgram s) : s.upc.toNat ≤ lastUsedIndex :=
  have ⟨_, _, hk⟩ := h
  hk

theorem InProgram.atOp {s : State} (h : InProgram s) : AtOp s (programOp s.upc.toNat) := by
  obtain ⟨hrom, hf, hk⟩ := h
  exact ⟨hf, (State.fetch_normative hrom).trans (decode_normativeWord hk)⟩

/-- A step inside the program is a reset step or one of the op that stands there. -/
theorem InProgram.step_cases {s t : State} (h : InProgram s) (hs : step s = .next t) :
    t = s.resetStep ∨ ∃ u, exec (programOp s.upc.toNat) s = .next u ∧ t = u.endStep := by
  by_cases hr : s.pins.rst = true
  · exact .inl (Host.Outcome.next.inj (hs.symm.trans (if_pos hr)))
  · obtain ⟨u, hu⟩ := exec_next (programOp s.upc.toNat) s
    exact .inr ⟨u, hu, Host.Outcome.next.inj (hs.symm.trans (step_of_atOp (by simpa using hr) h.atOp hu))⟩

theorem upc_succ_toNat {x : BitVec 8} (h : x.toNat < 255) : (x + 1).toNat = x.toNat + 1 := by
  rw [BitVec.toNat_add, show (1 : BitVec 8).toNat = 1 from rfl]
  omega

/-- Where an op of the program leaves the sequencer. -/
theorem InProgram.flow {s u : State} (h : InProgram s) (hu : exec (programOp s.upc.toNat) s = .next u) :
    (u.opE = 0 ∧ NextIndex s.upc.toNat u.upc.toNat) ∨ GoesOn (programOp s.upc.toNat) s u := by
  obtain ⟨-, -, hk⟩ := h
  rcases exec_flow hu with ⟨hE, hupc⟩ | ⟨hE, htarget⟩ | hon
  · refine .inl ⟨hE, ?_⟩
    rcases Nat.lt_or_eq_of_le hk with hlt | hlast
    · exact .inl ⟨hlt, hupc ▸ upc_succ_toNat (hlt.trans (by decide))⟩
    · have hjmp : programOp s.upc.toNat = .jmp 0x14 := by rw [hlast]; decide
      obtain rfl := exec_unique (exec_jmp 0x14 s) (hjmp ▸ hu)
      exact nextIndex_of_target hk (by rw [hjmp]; rfl)
  · exact .inl ⟨hE, nextIndex_of_target hk htarget⟩
  · exact .inr hon

/-- The same on indices alone. -/
theorem InProgram.flow_index {s u : State} (h : InProgram s) (hu : exec (programOp s.upc.toNat) s = .next u) :
    (NextIndex s.upc.toNat u.upc.toNat ∨ u.upc.toNat = s.upc.toNat) ∧ (u.opE ≠ 0 → u.upc.toNat = s.upc.toNat) := by
  rcases h.flow hu with ⟨hE, hnext⟩ | ⟨-, hsame, -⟩
  · exact ⟨.inl hnext, fun hne => absurd hE hne⟩
  · exact ⟨.inr (congrArg _ hsame), fun _ => congrArg _ hsame⟩

theorem InProgram.of_exec {s u : State} (h : InProgram s) (hu : exec (programOp s.upc.toNat) s = .next u) :
    InProgram u := by
  have hflow := h.flow hu
  obtain ⟨hnormative, hf, hk⟩ := h
  refine ⟨(exec_rom hu).trans hnormative, (exec_faulted hu).trans hf, ?_⟩
  rcases hflow with ⟨-, hnext⟩ | ⟨-, hsame, -⟩
  · exact hnext.le
  · rwa [hsame]

theorem InProgram.endStep {u : State} (h : InProgram u) : InProgram u.endStep := h

theorem InProgram.resetStep {s : State} (h : InProgram s) : InProgram s.resetStep :=
  ⟨h.1, rfl, Nat.zero_le _⟩

/-- Settles O51: `InProgram.flow` never leaves the program, and every word of it is legal. -/
theorem normativeProgramNeverFaults : Obligations.NormativeProgramNeverFaults := by
  intro s t h hs
  rcases h.step_cases hs with rfl | ⟨u, hu, rfl⟩
  · exact h.resetStep
  · exact (h.of_exec hu).endStep

/-! ## One sample of the line on this hardware (41_frame_decoder.md R117, R121) -/

/-- The four things that a step of DHT_SAMPLE can do, the counters as numbers. -/
inductive SampleStep (s u : State) : Prop
  /-- An equal sample is counted. -/
  | counts (hcnt : s.decCnt.toNat < 254) (hcnt' : u.decCnt.toNat = s.decCnt.toNat + 1) (hi : u.decI = s.decI)
      (hE : u.opE.toNat = s.opE.toNat + 1) (hupc : u.upc = s.upc) (hbits : u.bitcnt = s.bitcnt)
      (hto : u.decTo = s.decTo)
  /-- The last equal sample is the timeout. -/
  | timesOut (hcnt : s.decCnt.toNat = 254) (hi : u.decI = s.decI) (hend : Completes s u) (hbits : u.bitcnt = s.bitcnt)
      (hto : u.decTo = true)
  /-- A transition ends. -/
  | advances (hlt : s.decI.toNat < 84) (hi : u.decI.toNat = s.decI.toNat + 1) (hcnt : u.decCnt.toNat = 0)
      (hE : u.opE.toNat = s.opE.toNat + 1) (hupc : u.upc = s.upc)
      (hbits : u.bitcnt.toNat =
        if 3 ≤ s.decI.toNat ∧ s.decI.toNat % 2 = 0 then min (s.bitcnt.toNat + 1) 63 else s.bitcnt.toNat)
      (hto : u.decTo = s.decTo)
  /-- The last transition ends. -/
  | finishes (hlast : s.decI.toNat = 84) (hi : u.decI.toNat = 85) (hend : Completes s u)
      (hbits : u.bitcnt.toNat = min (s.bitcnt.toNat + 1) 63) (hto : u.decTo = s.decTo)

theorem sampleStep_of_exec {s u : State} (hp : s.par = .hardware) (hi : s.decI.toNat ≤ 84)
    (hcnt : s.decCnt.toNat ≤ 254) (hE : s.opE.toNat + 1 < 2 ^ 32) (hu : exec .dhtSample s = .next u) : SampleStep s u := by
  by_cases hline : s.pins.dhtI = s.decLast
  · obtain rfl := exec_unique (exec_dhtSample_same hline) hu
    by_cases hlast : s.decCnt.toNat + 1 = s.par.timeoutCount
    · have hlast' : s.decCnt.toNat + 1 = 255 := by rwa [hp] at hlast
      rw [State.sampleSame_timeout hlast]
      exact .timesOut (by omega) rfl ⟨rfl, rfl⟩ rfl rfl
    · have hmore : s.decCnt.toNat + 1 ≠ 255 := by rwa [hp] at hlast
      rw [State.sampleSame_more hlast]
      exact .counts (by omega) (toNat_orFree_of_lt _ (by omega)) rfl (State.hold_opE_toNat hE) rfl rfl rfl
  · obtain ⟨v, hv, hkeep, hi', hseq, hbit⟩ := dhtSampleOnALevelChange.2 s hline
    obtain rfl := exec_unique hv hu
    have hto : u.decTo = s.decTo := (congrArg State.decTo hkeep).trans rfl
    have hcnt : u.decCnt.toNat = 0 := congrArg (fun x => x.decCnt.toNat) hkeep
    have hnext := hi' (by omega)
    have hbits : u.bitcnt.toNat =
        if 3 ≤ s.decI.toNat ∧ s.decI.toNat % 2 = 0 then min (s.bitcnt.toNat + 1) 63 else s.bitcnt.toNat := by
      rw [hp, show Params.hardware.headerTransitions = 3 from rfl] at hbit
      split at hbit
      next hcarries => rw [if_pos hcarries, hbit.1]
      next hnone => rw [if_neg hnone, hbit.1]
    rw [hp, show Params.hardware.maxTimings = 85 from rfl] at hseq
    split at hseq
    next hlast =>
      rw [if_pos (by omega)] at hbits
      exact .finishes (by omega) (by omega) hseq hbits hto
    next hmore => exact .advances (by omega) hnext hcnt (hseq.2 hE) hseq.1 hbits hto

/-- What `CountersOk` says while DHT_SAMPLE runs. -/
def SampleCounters (s : State) : Prop :=
  s.decI.toNat ≤ 84 ∧ s.decCnt.toNat ≤ 254 ∧ s.decTo = false ∧ s.bitcnt.toNat = bitsBefore s.decI.toNat ∧
    s.opE.toNat ≤ 255 * s.decI.toNat + s.decCnt.toNat

/-- A classified transition is one bit more. -/
theorem bitsBefore_succ (i : Nat) : bitsBefore (i + 1) = bitsBefore i + if 3 ≤ i ∧ i % 2 = 0 then 1 else 0 := by
  unfold bitsBefore
  split <;> omega

theorem SampleCounters.bitcnt_eq {s : State} (h : SampleCounters s) : s.bitcnt.toNat = bitsBefore s.decI.toNat :=
  have ⟨_, _, _, hbits, _⟩ := h
  hbits

theorem bitsBefore_le {i : Nat} (h : i ≤ 84) : bitsBefore i ≤ 40 := by
  unfold bitsBefore
  omega

/-- A step of DHT_SAMPLE keeps its counters or completes it, then with at most 41 bits. -/
theorem SampleCounters.of_exec {s u : State} (h : SampleCounters s) (hp : s.par = .hardware)
    (hu : exec .dhtSample s = .next u) :
    (SampleCounters u ∧ u.opE.toNat = s.opE.toNat + 1 ∧ u.upc = s.upc) ∨
      (Completes s u ∧ u.decI.toNat ≤ 85 ∧ u.bitcnt.toNat ≤ 41 ∧ (u.decTo = false → u.bitcnt.toNat = 41)) := by
  obtain ⟨hi, hcnt, hto, hbits, hE⟩ := h
  have hle := bitsBefore_le hi
  cases sampleStep_of_exec hp hi hcnt (by omega) hu with
  | counts hlt hcnt' hi' hE' hupc hbits' hto' =>
    exact .inl ⟨⟨hi' ▸ hi, by omega, hto'.trans hto, by rw [hbits', hi', hbits], by rw [hi']; omega⟩, hE', hupc⟩
  | timesOut _ hi' hend hbits' hto' =>
    exact .inr ⟨hend, by rw [hi']; omega, by rw [hbits']; omega, fun hno => absurd (hto'.symm.trans hno) (by decide)⟩
  | advances hlt hi' hcnt' hE' hupc hbits' hto' =>
    refine .inl ⟨⟨by omega, by omega, hto'.trans hto, ?_, by omega⟩, hE', hupc⟩
    rw [hbits', hi', bitsBefore_succ, ← hbits]
    split <;> omega
  | finishes hlast hi' hend hbits' hto' =>
    have hfull : bitsBefore s.decI.toNat = 40 := by rw [hlast]; decide
    exact .inr ⟨hend, by omega, by omega, fun _ => by omega⟩

/-! ## The counters (70_reset_and_hazards.md R280) -/

/-- The registers of the frame decoder that `CountersOk` speaks of are the same. -/
def SameDecoder (s u : State) : Prop :=
  u.decI = s.decI ∧ u.bitcnt = s.bitcnt ∧ u.decTo = s.decTo

theorem exec_sameDecoder {i : Instr} {s u : State} (hu : exec i s = .next u) (hstart : i ≠ .dhtStart)
    (hrelease : i ≠ .dhtRelease) (hsample : i ≠ .dhtSample) : SameDecoder s u := by
  obtain ⟨hframe, hworking, -, -⟩ := decoderRegistersHaveTheirWriters i s u hu
  obtain ⟨-, hbits, hto⟩ := hframe hstart hsample
  exact ⟨(hworking hrelease hsample).1, hbits, hto⟩

/-- The step counter stays below the op's duration. -/
theorem CountersOk.exec_opE {s u : State} (h : CountersOk s) (hu : exec (programOp s.upc.toNat) s = .next u) :
    u.opE.toNat ≤ opCountLimit u.upc.toNat := by
  obtain ⟨hprog, hp, hE, -, -, -, hsample⟩ := h
  have hk := hprog.upc_le
  have hlimit := opCountLimit_le s.upc.toNat
  rcases hprog.flow hu with ⟨hzero, -⟩ | ⟨hhold, hupc, -, hwhy⟩
  · rw [hzero]
    exact Nat.zero_le _
  · rw [hupc, hhold, State.hold_opE_toNat (by omega)]
    rcases hwhy with hop | ⟨d, hd, hmore⟩
    · have hk8 := (programOp_eq_dhtSample hk).mp hop
      rw [hop] at hu
      have hcounters : SampleCounters s := hsample hk8
      rcases hcounters.of_exec hp hu with ⟨⟨hi, hcnt, -, -, hE'⟩, hE'', -⟩ | ⟨⟨-, hnext⟩, -⟩
      · have hl : opCountLimit s.upc.toNat = 21674 := by rcases hk8 with hk8 | hk8 <;> rw [hk8] <;> decide
        omega
      · exact absurd (hupc.symm.trans hnext) (by bv_omega)
    · have := opCountLimit_of_opSteps hk (hp ▸ hd)
      omega

/-- The two clauses of `CountersOk` that hang on the index: a handshake starts with an empty frame, and DHT_SAMPLE keeps
its counters. -/
def DecoderClauses (s : State) : Prop :=
  s.decI.toNat ≤ 85 ∧ s.bitcnt.toNat ≤ 41 ∧
  ((s.upc.toNat = 0x05 ∨ s.upc.toNat = 0x1A) ∧ s.opE ≠ 0 ∨ s.upc.toNat = 0x06 ∨ s.upc.toNat = 0x1B ∨
      s.upc.toNat = 0x07 ∨ s.upc.toNat = 0x1C → s.bitcnt = 0 ∧ s.decTo = false) ∧
  (s.upc.toNat = 0x08 ∨ s.upc.toNat = 0x1D → SampleCounters s)

theorem countersOk_iff (s : State) :
    CountersOk s ↔ InProgram s ∧ s.par = .hardware ∧ s.opE.toNat ≤ opCountLimit s.upc.toNat ∧ DecoderClauses s := Iff.rfl

theorem DecoderClauses.of_exec {s u : State} (hprog : InProgram s) (hp : s.par = .hardware) (h : DecoderClauses s)
    (hu : exec (programOp s.upc.toNat) s = .next u) : DecoderClauses u := by
  obtain ⟨hi, hbits, hshake, hsample⟩ := h
  have hk := hprog.upc_le
  obtain ⟨hidx, hstay⟩ := hprog.flow_index hu
  unfold NextIndex at hidx
  by_cases hstart : s.upc.toNat = 0x05 ∨ s.upc.toNat = 0x1A
  · -- The frame is cleared in the first step of DHT_START and stays so.
    rw [(programOp_eq_dhtStart hk).mpr hstart] at hu
    have hclear : u.bitcnt = 0 ∧ u.decTo = false := by
      obtain rfl := exec_unique (exec_dhtStart s) hu
      by_cases hfirst : s.opE = 0
      · exact ⟨if_pos hfirst, if_pos hfirst⟩
      · obtain ⟨hb, ht⟩ := hshake (.inl ⟨hstart, hfirst⟩)
        exact ⟨(if_neg hfirst).trans hb, (if_neg hfirst).trans ht⟩
    obtain ⟨-, hworking, -, -⟩ := decoderRegistersHaveTheirWriters _ s u hu
    exact ⟨(hworking (by decide) (by decide)).1 ▸ hi, by rw [hclear.1]; decide, fun _ => hclear, fun h8 => by omega⟩
  by_cases hrelease : s.upc.toNat = 0x07 ∨ s.upc.toNat = 0x1C
  · -- DHT_RELEASE sets the decoder to its first transition.
    rw [(programOp_eq_dhtRelease hk).mpr hrelease] at hu
    obtain rfl := exec_unique (exec_dhtRelease s) hu
    obtain ⟨hb, ht⟩ := hshake (by omega)
    exact ⟨Nat.zero_le _, hbits, fun _ => ⟨hb, ht⟩,
      fun _ => ⟨Nat.zero_le _, Nat.zero_le _, ht, (congrArg BitVec.toNat hb).trans (by decide : 0 = bitsBefore 0), Nat.zero_le _⟩⟩
  by_cases hsampling : s.upc.toNat = 0x08 ∨ s.upc.toNat = 0x1D
  · rw [(programOp_eq_dhtSample hk).mpr hsampling] at hu
    rcases (hsample hsampling).of_exec hp hu with ⟨hcounters, -, hupc⟩ | ⟨⟨hE, hupc⟩, hi', hbits', -⟩
    · have ⟨hi', _, _, hbits', _⟩ := hcounters
      have hle := bitsBefore_le hi'
      have hidx := congrArg BitVec.toNat hupc
      exact ⟨by omega, by omega, fun h5 => by omega, fun _ => hcounters⟩
    · have hnext := congrArg BitVec.toNat hupc
      rw [upc_succ_toNat (by omega)] at hnext
      exact ⟨hi', hbits', fun h5 => by omega, fun h8 => by omega⟩
  · -- DHT_WAKE follows DHT_START, and every other op leaves the decoder alone and leads to no op of it but a first step.
    obtain ⟨hi', hbits', hto'⟩ := exec_sameDecoder hu (mt (programOp_eq_dhtStart hk).mp hstart)
      (mt (programOp_eq_dhtRelease hk).mp hrelease) (mt (programOp_eq_dhtSample hk).mp hsampling)
    rw [DecoderClauses, hi', hbits', hto']
    refine ⟨hi, hbits, fun h5 => hshake ?_, fun h8 => by omega⟩
    rcases h5 with ⟨h5, hne⟩ | h5
    · have := hstay hne
      omega
    · omega

theorem CountersOk.of_exec {s u : State} (h : CountersOk s) (hu : exec (programOp s.upc.toNat) s = .next u) :
    CountersOk u :=
  have ⟨hprog, hp, _, hdec⟩ := (countersOk_iff s).mp h
  ⟨hprog.of_exec hu, (exec_par hu).trans hp, h.exec_opE hu, hdec.of_exec hprog hp hu⟩

theorem CountersOk.endStep {u : State} (h : CountersOk u) : CountersOk u.endStep := h

theorem CountersOk.resetStep {s : State} (h : CountersOk s) : CountersOk s.resetStep :=
  have ⟨hprog, hp, _⟩ := h
  have ⟨_, _, hreset⟩ := State.reset_countersOk
  ⟨hprog.resetStep, hp, hreset⟩

/-- Settles O52: `CountersOk.of_exec`, and the reset values. -/
theorem countersStayInRange : Obligations.CountersStayInRange := by
  intro s t h hs
  rcases h.1.step_cases hs with rfl | ⟨u, hu, rfl⟩
  · exact h.resetStep
  · exact (h.of_exec hu).endStep

/-! ## The line (41_frame_decoder.md R130) -/

/-- Where the block may drive the line. -/
def InHandshake (s : State) : Prop :=
  (s.upc.toNat = 0x05 ∧ s.opE ≠ 0) ∨ s.upc.toNat = 0x06 ∨ s.upc.toNat = 0x07 ∨
    (s.upc.toNat = 0x1A ∧ s.opE ≠ 0) ∨ s.upc.toNat = 0x1B ∨ s.upc.toNat = 0x1C

/-- A step that goes on has counted. -/
theorem GoesOn.opE_ne_zero {i : Instr} {s u : State} (h : GoesOn i s u) (hE : s.opE.toNat + 1 < 2 ^ 32) : u.opE ≠ 0 := by
  intro hzero
  have hcount := State.hold_opE_toNat hE
  rw [← h.1, hzero] at hcount
  exact absurd hcount (Nat.succ_ne_zero _).symm

/-- DHT_START and DHT_WAKE lead on inside the handshake, DHT_RELEASE releases the line, and no other op drives it. -/
theorem CountersOk.exec_line {s u : State} (h : CountersOk s) (hline : s.dhtOe = true → InHandshake s)
    (hu : exec (programOp s.upc.toNat) s = .next u) (hdrives : u.dhtOe = true) : InHandshake u := by
  obtain ⟨hprog, -, hE, -⟩ := h
  have hk := hprog.upc_le
  have hlimit := opCountLimit_le s.upc.toNat
  have hflow := hprog.flow hu
  unfold NextIndex at hflow
  by_cases hstart : s.upc.toNat = 0x05 ∨ s.upc.toNat = 0x1A
  · rcases hflow with ⟨-, hnext⟩ | hon
    · unfold InHandshake; omega
    · have hne := hon.opE_ne_zero (by omega)
      have ⟨_, hsame, _⟩ := hon
      rw [InHandshake, hsame]
      exact hstart.elim (fun h5 => .inl ⟨h5, hne⟩) fun h5 => .inr (.inr (.inr (.inl ⟨h5, hne⟩)))
  by_cases hwake : s.upc.toNat = 0x06 ∨ s.upc.toNat = 0x1B
  · have hidx := (hprog.flow_index hu).1
    unfold NextIndex at hidx
    unfold InHandshake
    omega
  by_cases hrelease : s.upc.toNat = 0x07 ∨ s.upc.toNat = 0x1C
  · rw [(programOp_eq_dhtRelease hk).mpr hrelease] at hu
    obtain rfl := exec_unique (exec_dhtRelease s) hu
    exact absurd hdrives Bool.false_ne_true
  · have hkept := (onlyHandshakeOpsDriveTheLine _ s u hu (mt (programOp_eq_dhtStart hk).mp hstart)
      (mt (programOp_eq_dhtWake hk).mp hwake) (mt (programOp_eq_dhtRelease hk).mp hrelease)).1
    have hin := hline (hkept.symm.trans hdrives)
    unfold InHandshake at hin
    omega

/-- Settles O53: `CountersOk.exec_line`, and a reset step releases the line. -/
theorem lineIsReleasedOutsideTheHandshake : Obligations.LineIsReleasedOutsideTheHandshake := by
  rintro s t ⟨h, hline⟩ hs
  rcases h.1.step_cases hs with rfl | ⟨u, hu, rfl⟩
  · exact ⟨h.resetStep, fun hdrives => absurd hdrives Bool.false_ne_true⟩
  · exact ⟨(h.of_exec hu).endStep, h.exec_line (u := u) hline hu⟩

end Sys2Proof.Machine

/-! PROOFS. What every step keeps of the controller (44_controller.md R182; 70_reset_and_hazards.md R265), and of the
readings, the windows and the sums (10_state.md R26, R28, R32, R33). -/

namespace Sys2Proof.Machine

/-! ## The controller's ops in the microprogram -/

theorem programOp_eq_wlEval {k : Nat} (hk : k ≤ lastUsedIndex) : programOp k = .wlEval ↔ k = 0x19 := by
  revert k; decide

theorem programOp_eq_ctlFan {k : Nat} (hk : k ≤ lastUsedIndex) : programOp k = .ctlFan ↔ k = 0x26 := by
  revert k; decide

theorem programOp_eq_ctlRefill {k : Nat} (hk : k ≤ lastUsedIndex) : programOp k = .ctlRefill ↔ k = 0x27 := by
  revert k; decide

theorem programOp_eq_ctlEmpty {k : Nat} (hk : k ≤ lastUsedIndex) : programOp k = .ctlEmpty ↔ k = 0x28 := by
  revert k; decide

theorem programOp_eq_ctlCommit {k : Nat} (hk : k ≤ lastUsedIndex) : programOp k = .ctlCommit ↔ k = 0x29 := by
  revert k; decide

/-! ## The controller between and inside ticks -/

/-- The clauses of `ControlOk` about the controller's registers. -/
def ControlClauses (s : State) : Prop :=
  (s.upc.toNat ≤ 0x19 ∨ 0x2A ≤ s.upc.toNat →
    s.lastOutOfWater = s.outOfWater ∧ (s.outOfWater = true → s.fanOn = false)) ∧
  (0x1A ≤ s.upc.toNat ∧ s.upc.toNat ≤ 0x28 → s.outOfWater = true → s.lastOutOfWater = true → s.fanOn = false) ∧
  (s.upc.toNat = 0x28 → s.opE ≠ 0 → s.emptyEdge = true ∧ s.fanOn = false ∧ s.led = true) ∧
  (s.upc.toNat = 0x29 → s.outOfWater = true → s.fanOn = false) ∧
  (s.alm = true → s.upc.toNat = 0x28 ∧ s.opE ≠ 0) ∧
  (s.upc.toNat ≤ 0x13 → s.fanOn = false ∧ s.led = false ∧ s.outOfWater = false ∧ s.lastOutOfWater = false)

theorem controlOk_iff (s : State) : ControlOk s ↔ CountersOk s ∧ ControlClauses s := Iff.rfl

/-- An op other than the controller's leaves its registers alone, and stays where the same clauses hold. -/
theorem ControlClauses.of_exec_other {s u : State} (hprog : InProgram s) (h : ControlClauses s)
    (hother : s.upc.toNat ≠ 0x19 ∧ s.upc.toNat ≠ 0x26 ∧ s.upc.toNat ≠ 0x27 ∧ s.upc.toNat ≠ 0x28 ∧ s.upc.toNat ≠ 0x29)
    (hu : exec (programOp s.upc.toNat) s = .next u) : ControlClauses u := by
  obtain ⟨hbetween, hinside, -, -, halm, hstartup⟩ := h
  obtain ⟨hne19, hne26, hne27, hne28, hne29⟩ := hother
  have hk := hprog.upc_le
  obtain ⟨hidx, hstay⟩ := hprog.flow_index hu
  unfold NextIndex at hidx
  obtain ⟨hfan, hout, hlast, -, -, hled, halm', -⟩ := controllerRegistersHaveTheirWriters _ s u hu
  have hempty := mt (programOp_eq_ctlEmpty hk).mp hne28
  have hfan := hfan (mt (programOp_eq_ctlFan hk).mp hne26) hempty
  have hout := hout (mt (programOp_eq_wlEval hk).mp hne19)
  have hlast := hlast (mt (programOp_eq_ctlCommit hk).mp hne29)
  have hled := hled (mt (programOp_eq_ctlRefill hk).mp hne27) hempty
  have halm' := halm' hempty
  rw [ControlClauses, State.emptyEdge, hfan, hout, hlast, hled, halm']
  refine ⟨fun h' => hbetween (by omega), fun h' => hinside (by omega), fun h' hE => ?_, fun h' => by omega,
    fun h' => absurd (halm h').1 hne28, fun h' => hstartup (by omega)⟩
  have := hstay hE
  omega

/-- WL_EVAL opens the tick: the water state before it is the one that the last tick kept. -/
theorem ControlClauses.of_exec_wlEval {s u : State} (h : ControlClauses s) (hk : s.upc.toNat = 0x19)
    (hu : exec .wlEval s = .next u) : ControlClauses u := by
  obtain ⟨hbetween, -, -, -, halm, -⟩ := h
  obtain ⟨hlast, hfan⟩ := hbetween (by omega)
  obtain rfl := exec_unique (exec_wlEval s) hu
  have hk' : (s.upc + 1).toNat = 0x1A := by rw [upc_succ_toNat (by omega), hk]
  refine ⟨fun h' => ?_, fun _ _ hlast' => hfan (hlast.symm.trans hlast'), fun h' => ?_, fun h' => ?_,
    fun h' => absurd (halm h').1 (by omega), fun h' => ?_⟩
  all_goals simp only [hk'] at h'; omega

/-- CTL_FAN leaves the fan as it is when out of water. -/
theorem ControlClauses.of_exec_ctlFan {s u : State} (h : ControlClauses s) (hk : s.upc.toNat = 0x26)
    (hu : exec .ctlFan s = .next u) : ControlClauses u := by
  obtain ⟨-, hinside, -, -, halm, -⟩ := h
  obtain rfl := exec_unique (exec_ctlFan s) hu
  have hk' : (s.upc + 1).toNat = 0x27 := by rw [upc_succ_toNat (by omega), hk]
  refine ⟨fun h' => ?_, fun _ hout hlast => (if_pos hout).trans (hinside (by omega) hout hlast), fun h' => ?_,
    fun h' => ?_, fun h' => absurd (halm h').1 (by omega), fun h' => ?_⟩
  all_goals simp only [hk'] at h'; omega

/-- CTL_REFILL touches the indicator only. -/
theorem ControlClauses.of_exec_ctlRefill {s u : State} (h : ControlClauses s) (hk : s.upc.toNat = 0x27)
    (hu : exec .ctlRefill s = .next u) : ControlClauses u := by
  obtain ⟨-, hinside, -, -, halm, -⟩ := h
  obtain rfl := exec_unique (exec_ctlRefill s) hu
  have hk' : (s.upc + 1).toNat = 0x28 := by rw [upc_succ_toNat (by omega), hk]
  refine ⟨fun h' => ?_, fun _ => hinside (by omega), fun _ hE => absurd rfl hE, fun h' => ?_,
    fun h' => absurd (halm h').1 (by omega), fun h' => ?_⟩
  all_goals simp only [hk'] at h'; omega

/-- CTL_COMMIT closes the tick: the water state is the one kept. -/
theorem ControlClauses.of_exec_ctlCommit {s u : State} (h : ControlClauses s) (hk : s.upc.toNat = 0x29)
    (hu : exec .ctlCommit s = .next u) : ControlClauses u := by
  obtain ⟨-, -, -, hfan, halm, -⟩ := h
  obtain rfl := exec_unique (exec_ctlCommit s) hu
  have hk' : (s.upc + 1).toNat = 0x2A := by rw [upc_succ_toNat (by omega), hk]
  refine ⟨fun _ => ⟨rfl, hfan hk⟩, fun h' => ?_, fun h' => ?_, fun h' => ?_, fun h' => absurd (halm h').1 (by omega),
    fun h' => ?_⟩
  all_goals simp only [hk'] at h'; omega

/-- CTL_EMPTY without the edge: out of water means out of water before, where the fan is off. -/
theorem ControlClauses.of_exec_ctlEmpty_idle {s u : State} (h : ControlClauses s) (hk : s.upc.toNat = 0x28)
    (hedge : ¬ s.emptyEdge = true) (hu : exec .ctlEmpty s = .next u) : ControlClauses u := by
  obtain ⟨-, hinside, halarm, -, halm, -⟩ := h
  obtain rfl := exec_unique (exec_ctlEmpty_idle hedge) hu
  have hk' : (s.upc + 1).toNat = 0x29 := by rw [upc_succ_toNat (by omega), hk]
  refine ⟨fun h' => ?_, fun h' => ?_, fun h' => ?_, fun _ hout => hinside (by omega) hout ?_,
    fun h' => absurd (halarm hk (halm h').2).1 hedge, fun h' => ?_⟩
  case refine_4 => exact Bool.eq_true_of_not_eq_false fun hlast => hedge (s.emptyEdge_iff.mpr ⟨hout, hlast⟩)
  all_goals simp only [hk'] at h'; omega

/-- CTL_EMPTY with the edge: the fan is off from its first step on, and the pattern's last step leaves the pin low. -/
theorem ControlClauses.of_exec_ctlEmpty_alarm {s u : State} (hp : s.par = .hardware) (hE : s.opE.toNat + 1 < 2 ^ 32)
    (h : ControlClauses s) (hk : s.upc.toNat = 0x28) (hedge : s.emptyEdge = true)
    (hu : exec .ctlEmpty s = .next u) : ControlClauses u := by
  obtain ⟨-, -, halarm, -, -, -⟩ := h
  obtain ⟨hout, hlast⟩ := s.emptyEdge_iff.mp hedge
  have heq := exec_unique (exec_ctlEmpty_alarm hedge) hu
  have hoff : u.fanOn = false ∧ u.led = true := by
    rw [heq]
    by_cases hfirst : s.opE = 0
    · exact ⟨if_pos hfirst, if_pos hfirst⟩
    · obtain ⟨-, hfan, hled⟩ := halarm hk hfirst
      exact ⟨(if_neg hfirst).trans hfan, (if_neg hfirst).trans hled⟩
  have hedge' : u.emptyEdge = true := by rw [heq]; exact hedge
  have hlast' : u.lastOutOfWater = false := by rw [heq]; exact hlast
  by_cases hend : s.opE.toNat + 1 = s.par.tAlarmUs
  · have hk' : u.upc.toNat = 0x29 := by
      rw [heq]
      simp only [if_pos hend]
      rw [upc_succ_toNat (by omega), hk]
    have halm' : u.alm = false := by
      rw [hp, show Params.hardware.tAlarmUs = 3000000 by decide] at hend
      rw [heq]
      show alarmLevel s.par s.opE.toNat = false
      rw [hp, show s.opE.toNat = 2999999 by omega]
      decide
    exact ⟨by omega, by omega, by omega, fun _ _ => hoff.1, fun h' => absurd (halm'.symm.trans h') Bool.false_ne_true,
      by omega⟩
  · have hk' : u.upc.toNat = 0x28 := by
      rw [heq]
      simp only [if_neg hend]
      exact hk
    have hne : u.opE ≠ 0 := by
      rw [heq]
      simp only [if_neg hend]
      intro hzero
      have hcount := State.hold_opE_toNat hE
      rw [hzero] at hcount
      exact absurd hcount (Nat.succ_ne_zero _).symm
    exact ⟨by omega, fun _ _ h' => absurd (hlast'.symm.trans h') Bool.false_ne_true, fun _ _ => ⟨hedge', hoff⟩,
      by omega, fun _ => ⟨hk', hne⟩, by omega⟩

theorem ControlOk.of_exec {s u : State} (h : ControlOk s) (hu : exec (programOp s.upc.toNat) s = .next u) :
    ControlOk u := by
  obtain ⟨hcounters, hclauses⟩ := (controlOk_iff s).mp h
  refine (controlOk_iff u).mpr ⟨hcounters.of_exec hu, ?_⟩
  obtain ⟨hprog, hp, hE, -⟩ := hcounters
  have hk := hprog.upc_le
  by_cases heval : s.upc.toNat = 0x19
  · exact hclauses.of_exec_wlEval heval ((programOp_eq_wlEval hk).mpr heval ▸ hu)
  by_cases hfan : s.upc.toNat = 0x26
  · exact hclauses.of_exec_ctlFan hfan ((programOp_eq_ctlFan hk).mpr hfan ▸ hu)
  by_cases hrefill : s.upc.toNat = 0x27
  · exact hclauses.of_exec_ctlRefill hrefill ((programOp_eq_ctlRefill hk).mpr hrefill ▸ hu)
  by_cases hempty : s.upc.toNat = 0x28
  · have hu := (programOp_eq_ctlEmpty hk).mpr hempty ▸ hu
    by_cases hedge : s.emptyEdge = true
    · have hlimit := opCountLimit_le s.upc.toNat
      exact hclauses.of_exec_ctlEmpty_alarm hp (by omega) hempty hedge hu
    · exact hclauses.of_exec_ctlEmpty_idle hempty hedge hu
  by_cases hcommit : s.upc.toNat = 0x29
  · exact hclauses.of_exec_ctlCommit hcommit ((programOp_eq_ctlCommit hk).mpr hcommit ▸ hu)
  · exact hclauses.of_exec_other hprog ⟨heval, hfan, hrefill, hempty, hcommit⟩ hu

/-- Settles O54: the controller's five ops one by one (R182), and every other op by its flow. -/
theorem outOfWaterMeansFanOffAtTickBoundaries : Obligations.OutOfWaterMeansFanOffAtTickBoundaries := by
  intro s t h hs
  have hcounters := h.1
  rcases hcounters.1.step_cases hs with rfl | ⟨u, hu, rfl⟩
  · exact ⟨hcounters.resetStep, fun _ => ⟨rfl, fun _ => rfl⟩, fun _ _ _ => rfl, fun _ hE => absurd rfl hE, fun _ _ => rfl,
      fun halm => absurd halm Bool.false_ne_true, fun _ => ⟨rfl, rfl, rfl, rfl⟩⟩
  · exact h.of_exec (u := u) hu

/-! ## Readings, windows and sums, with any ROM -/

theorem tempTenths_range (b : Byte) : 320 ≤ (tempTenths b).toNat ∧ (tempTenths b).toNat ≤ 4910 := by
  have := b.isLt
  rw [tempTenths_toNat]
  omega

/-- DHT_CONVERT stores a temperature of a byte, or keeps the one it has. -/
theorem RangesOk.of_dhtConvert {s u : State} (h : RangesOk s) (hu : exec .dhtConvert s = .next u) : RangesOk u := by
  obtain rfl := exec_unique (exec_dhtConvert s) hu
  obtain ⟨hw, hlo, hhi, hrest⟩ := h
  obtain ⟨tlo, thi⟩ := tempTenths_range s.frame[2]
  cases hvalid : s.rdValid
  · exact ⟨hw, hlo, hhi, hrest⟩
  · exact ⟨hw, .inr tlo, thi, hrest⟩

/-- WIN_FILL stores the reading `N_WIN` times. -/
theorem RangesOk.of_winFill {w : Win} {s u : State} (h : RangesOk s) (hu : exec (.winFill w) s = .next u) :
    RangesOk u := by
  obtain rfl := exec_unique (exec_winFill w s) hu
  obtain ⟨⟨hn, hhum, htemp, hwater⟩, hlo, hhi, hslots, hhw⟩ := h
  cases w
  case hum => exact ⟨⟨hn, winFilled_length _ _, htemp, hwater⟩, hlo, hhi, hslots, hhw⟩
  case temp =>
    exact ⟨⟨hn, hhum, winFilled_length _ _, hwater⟩, hlo, hhi, fun v hv => mem_winFilled hv ▸ hhi, hhw⟩
  case water =>
    refine ⟨⟨hn, hhum, htemp, winFilled_length _ _⟩, hlo, hhi, hslots, fun hp => ?_⟩
    obtain ⟨hmap, -, hsums⟩ := hhw hp
    exact ⟨hmap, fun v hv => mem_winFilled hv ▸ hmap, hsums⟩

theorem winShifted_length_eq {α : Type} {w : List α} {n : Nat} (v : α) (hn : 1 ≤ n) (hw : w.length = n) :
    (winShifted w v).length = n := (winShifted_slots v hn hw).1

/-- WIN_SHIFT keeps the slots it does not drop, and its new one is the reading. -/
theorem RangesOk.of_winShift {w : Win} {s u : State} (h : RangesOk s) (hu : exec (.winShift w) s = .next u) :
    RangesOk u := by
  obtain rfl := exec_unique (exec_winShift w s) hu
  obtain ⟨⟨hn, hhum, htemp, hwater⟩, hlo, hhi, hslots, hhw⟩ := h
  cases w
  case hum => exact ⟨⟨hn, winShifted_length_eq _ hn hhum, htemp, hwater⟩, hlo, hhi, hslots, hhw⟩
  case temp =>
    refine ⟨⟨hn, hhum, winShifted_length_eq _ hn htemp, hwater⟩, hlo, hhi, fun v hv => ?_, hhw⟩
    rcases mem_winShifted hv with hv | rfl
    · exact hslots v hv
    · exact hhi
  case water =>
    refine ⟨⟨hn, hhum, htemp, winShifted_length_eq _ hn hwater⟩, hlo, hhi, hslots, fun hp => ?_⟩
    obtain ⟨hmap, hlevels, hsums⟩ := hhw hp
    refine ⟨hmap, fun v hv => ?_, hsums⟩
    rcases mem_winShifted hv with hv | rfl
    · exact hlevels v hv
    · exact hmap

/-- WIN_AVG stores the sum of 14 slots within their range. -/
theorem RangesOk.of_winAvg {w : Win} {s u : State} (h : RangesOk s) (hu : exec (.winAvg w) s = .next u) :
    RangesOk u := by
  obtain rfl := exec_unique (exec_winAvg w s) hu
  obtain ⟨⟨hn, hhum, htemp, hwater⟩, hlo, hhi, hslots, hhw⟩ := h
  refine ⟨⟨hn, hhum, htemp, hwater⟩, hlo, hhi, hslots, fun hp => ?_⟩
  have hslots14 : s.par.nWin = 14 := congrArg Params.nWin hp
  obtain ⟨hmap, hlevels, hsumHum, hsumTemp, hsumWater⟩ := hhw hp
  refine ⟨hmap, hlevels, ?_⟩
  cases w
  case hum =>
    have hsum : winSumU s.wHum ≤ 14 * 255 := winSumU_le_of_length (by omega)
    exact ⟨(State.storedHum_toNat (by omega)).trans_le hsum, hsumTemp, hsumWater⟩
  case temp =>
    have hsum : winSumU s.wTemp ≤ 14 * 4910 := (winSumU_le hslots).trans_eq (by rw [htemp, hslots14])
    exact ⟨hsumHum, (State.storedTemp_toNat (by omega)).trans_le hsum, hsumWater⟩
  case water =>
    obtain ⟨hsum, hsum'⟩ := winSumS_mem hlevels
    rw [hwater, hslots14] at hsum hsum'
    have hstored := State.storedWater_toInt (s := s) (by omega) (by omega)
    exact ⟨hsumHum, hsumTemp, show -14 ≤ s.storedWater.toInt ∧ s.storedWater.toInt ≤ 1386 by omega⟩

/-- WL_SAMPLE stores a mapping, which on this hardware fits. -/
theorem RangesOk.of_wlSample {s u : State} (h : RangesOk s) (hu : exec .wlSample s = .next u) : RangesOk u := by
  obtain rfl := exec_unique (exec_wlSample s) hu
  obtain ⟨hw, hlo, hhi, hslots, hhw⟩ := h
  refine ⟨hw, hlo, hhi, hslots, fun hp => ⟨?_, (hhw hp).2⟩⟩
  have hadc := s.pins.adcVal.isLt
  have hmap := State.storedMap_toInt_hardware (s := s) hp
  show -1 ≤ s.storedMap.toInt ∧ s.storedMap.toInt ≤ 99
  omega

theorem RangesOk.of_exec {i : Instr} {s u : State} (h : RangesOk s) (hu : exec i s = .next u) : RangesOk u := by
  cases i
  case dhtConvert => exact h.of_dhtConvert hu
  case winFill w => exact h.of_winFill hu
  case winShift w => exact h.of_winShift hu
  case winAvg w => exact h.of_winAvg hu
  case wlSample => exact h.of_wlSample hu
  -- No other op writes a register that `RangesOk` speaks of.
  all_goals rw [exec_writes hu]; exact h

/-- Every window of a reset step holds `N_WIN` zeros. -/
theorem RangesOk.resetStep {s : State} (h : RangesOk s) : RangesOk s.resetStep := by
  obtain ⟨⟨hn, -⟩, -⟩ := h
  obtain ⟨-, hlo, hhi, -, hhw⟩ := State.reset_rangesOk
  obtain ⟨hmap, -, hsums⟩ := hhw rfl
  refine ⟨⟨hn, List.length_replicate, List.length_replicate, List.length_replicate⟩, hlo, hhi,
    fun v hv => ?_, fun _ => ⟨hmap, fun v hv => ?_, hsums⟩⟩
  · rw [List.eq_of_mem_replicate hv]
    exact Nat.zero_le _
  · rw [List.eq_of_mem_replicate hv]
    decide

/-- Settles O55: only five ops write what `RangesOk` speaks of, and time and the fault entry write none of it. -/
theorem readingsWindowsAndSumsStayInRange : Obligations.ReadingsWindowsAndSumsStayInRange := by
  intro s t h hs
  rcases step_cases hs with ⟨-, rfl⟩ | ⟨-, -, rfl⟩ | ⟨-, -, -, rfl⟩ | ⟨-, i, u, -, hu, rfl⟩
  · exact h.resetStep
  · exact h
  · exact h
  · exact h.of_exec (u := u) hu

end Sys2Proof.Machine

/-! PROOFS. Whole ops and sequences of them over their steps: the start handshake (41_frame_decoder.md R111, R113), WAIT
(45_timer_sequencer.md R209), the alarm (44_controller.md R179), the tick's controller (R182) and a pass of the inner
loop (45_timer_sequencer.md R217). -/

namespace Sys2Proof.Machine

/-! ## Runs step by step -/

theorem State.run_snoc {s t u : State} {n : Nat} (hrun : s.run n = .next t) (hstep : step t = .next u) :
    s.run (n + 1) = .next u := by
  rw [State.run_add 1 hrun, State.run_succ 0 hstep, State.run_zero]

theorem State.run_trans {s t u : State} {m n : Nat} (hm : s.run m = .next t) (hn : t.run n = .next u) :
    s.run (m + n) = .next u := (State.run_add n hm).trans hn

/-- What every reset-free step of a stretch carries on holds all along it. -/
theorem State.run_reach {P : Nat → State → Prop} {s : State} {n d : Nat} (hn : NoReset s n) (hd : d ≤ n) (h0 : P 0 s)
    (hstep : ∀ k u, k < d → P k u → u.pins.rst = false → ∃ v, step u = .next v ∧ P (k + 1) v) :
    ∀ k ≤ d, ∃ t, s.run k = .next t ∧ P k t ∧ NoReset t (n - k) := by
  intro k hk
  induction k with
  | zero => exact ⟨s, State.run_zero s, h0, hn⟩
  | succ k ih =>
    obtain ⟨t, hrun, hP, hfree⟩ := ih (by omega)
    rw [show n - k = (n - (k + 1)) + 1 by omega] at hfree
    obtain ⟨v, hv, hP'⟩ := hstep k t hk hP hfree.now
    exact ⟨v, State.run_snoc hrun hv, hP', hfree.step hv⟩

/-! ## States that differ in the sequencer and in time only -/

/-- `u` is `s` but for the sequencer's registers, time and the environment. -/
def SameRegisters (s u : State) : Prop :=
  u = { s with
    upc := u.upc, opE := u.opE, tUs := u.tUs, nowMs := u.nowMs, script := u.script, draws := u.draws }

theorem SameRegisters.refl (s : State) : SameRegisters s s := rfl

theorem SameRegisters.trans {s t u : State} (hst : SameRegisters s t) (htu : SameRegisters t u) :
    SameRegisters s u := by
  unfold SameRegisters at *
  rw [hst] at htu
  exact htu

theorem SameRegisters.endStep {s u : State} (h : SameRegisters s u) : SameRegisters s u.endStep :=
  h.trans (u := u.endStep) (by rw [SameRegisters, State.endStep_eq])

theorem SameRegisters.par {s u : State} (h : SameRegisters s u) : u.par = s.par := (congrArg State.par h).trans rfl

theorem SameRegisters.rom {s u : State} (h : SameRegisters s u) : u.rom = s.rom := (congrArg State.rom h).trans rfl

theorem SameRegisters.faulted {s u : State} (h : SameRegisters s u) : u.faulted = s.faulted :=
  (congrArg State.faulted h).trans rfl

/-- With the same `upc` and step counter, what is left is time and the environment. -/
theorem SameRegisters.eq_of_seq {s u : State} (h : SameRegisters s u) (hupc : u.upc = s.upc) (hE : u.opE = s.opE) :
    u = { s with tUs := u.tUs, nowMs := u.nowMs, script := u.script, draws := u.draws } := by
  rw [SameRegisters, hupc, hE] at h
  exact h

/-- What stands at `upc` is the op when the ROM says so. -/
theorem atOp_of_decode {s : State} {i : Instr} {m : Memory} {k : BitVec 8} (hf : s.faulted = false) (hrom : s.rom = m)
    (hupc : s.upc = k) (hdec : decode (romWord m k) = some i) : AtOp s i :=
  ⟨hf, by rw [State.fetch, State.fetchWord, hrom, hupc, hdec]⟩

theorem AtOp.decode {s : State} {i : Instr} (h : AtOp s i) : decode (romWord s.rom s.upc) = some i := h.2

/-! ## An op that counts its steps -/

/-- The state after `k` of the `d` steps of a counting op: the registers `r`, and the sequencer still at the op, or past
it after the last step. -/
def Counted (r : State) (d k : Nat) (u : State) : Prop :=
  SameRegisters r u ∧ u.upc = (if k = d then r.upc + 1 else r.upc) ∧ u.opE.toNat = (if k = d then 0 else k)

/-- A counting op of `d` steps, whose registers after `k` steps are `r k`. -/
theorem State.run_counted {i : Instr} {s : State} {r : Nat → State} {n d : Nat} (hpos : 0 < d) (hfit : d < 2 ^ 32)
    (hn : NoReset s n) (hd : d ≤ n) (ha : AtOp s i) (hE : s.opE = 0) (hzero : r 0 = s)
    (hr : ∀ k, (r k).rom = s.rom ∧ (r k).faulted = s.faulted ∧ (r k).upc = s.upc)
    (hexec : ∀ k u, k < d → SameRegisters (r k) u → u.opE.toNat = k → ∃ v, exec i u = .next v ∧
      SameRegisters (r (k + 1)) v ∧ v.opE = (if u.opE.toNat + 1 = d then 0 else u.hold.opE) ∧
      v.upc = if u.opE.toNat + 1 = d then u.upc + 1 else u.upc) :
    ∀ k ≤ d, ∃ t, s.run k = .next t ∧ Counted (r k) d k t ∧ NoReset t (n - k) := by
  refine State.run_reach (P := fun k t => Counted (r k) d k t) hn hd ?start fun k u hk hu hfree => ?step
  case start =>
    rw [hzero]
    exact ⟨SameRegisters.refl s, (if_neg hpos.ne).symm, by rw [if_neg hpos.ne, hE]; exact rfl⟩
  case step =>
    obtain ⟨hsame, hupc, hcount⟩ := hu
    obtain ⟨hrom, hf, hat⟩ := hr k
    rw [if_neg hk.ne] at hupc hcount
    have hau : AtOp u i :=
      atOp_of_decode (hsame.faulted.trans (hf.trans ha.1)) (hsame.rom.trans hrom) (hupc.trans hat) ha.decode
    obtain ⟨v, hv, hsame', hE', hupc'⟩ := hexec k u hk hsame hcount
    refine ⟨v.endStep, step_of_atOp hfree hau hv, hsame'.endStep, ?_, ?_⟩
    · show v.upc = _
      obtain ⟨-, -, hat'⟩ := hr (k + 1)
      rw [hupc', hcount, hupc, hat, hat']
    · show v.opE.toNat = _
      rw [hE', hcount]
      split
      · exact rfl
      · rw [State.hold_opE_toNat (by omega), hcount]

/-! ## WAIT (R209) -/

/-- WAIT changes nothing but the sequencer and time. -/
theorem run_wait {w : WaitSel} {s : State} {n d : Nat} (hsteps : waitSteps s.par w = d) (hpos : 0 < d)
    (hfit : d < 2 ^ 32) (hn : NoReset s n) (hd : d ≤ n) (ha : AtOp s (.wait w)) (hE : s.opE = 0) :
    ∀ k ≤ d, ∃ t, s.run k = .next t ∧ Counted s d k t ∧ NoReset t (n - k) := by
  refine State.run_counted (r := fun _ => s) hpos hfit hn hd ha hE rfl
    (fun _ => ⟨rfl, rfl, rfl⟩) fun k u hk hsame hcount => ?_
  rw [← hsteps, ← hsame.par]
  exact ⟨_, exec_wait w u, hsame.trans rfl, rfl, rfl⟩

/-- Settles O44: `run_wait` with this hardware's periods. -/
theorem waitTakesItsPeriod : Obligations.WaitTakesItsPeriod := by
  intro w s d hp hn ha hE k hk
  have hsteps : waitSteps s.par w = d := by rw [hp]; cases w <;> rfl
  have hpos : 0 < d ∧ d < 2 ^ 32 := by cases w <;> decide
  obtain ⟨t, hrun, ⟨hsame, hupc, hcount⟩, -⟩ := run_wait hsteps hpos.1 hpos.2 hn le_rfl ha hE k hk
  exact ⟨t, hrun, by rw [SameRegisters, hupc] at hsame; exact hsame, hcount⟩

/-! ## The start handshake (R111, R113, R115) -/

/-- The registers after `k` steps of an op that writes `f` in its first step. -/
def afterFirst (f : State → State) (s : State) (k : Nat) : State := if k = 0 then s else f s

theorem afterFirst_of_pos (f : State → State) (s : State) {k : Nat} (h : 0 < k) : afterFirst f s k = f s := if_neg h.ne'

theorem opE_eq_zero_iff {s : State} : s.opE = 0 ↔ s.opE.toNat = 0 := (BitVec.toNat_inj (y := 0)).symm

/-- A counting op of `d` steps that writes `f` in its first step and no register after it. -/
theorem State.run_counted_first {i : Instr} {f : State → State} {s : State} {n d : Nat} (hpos : 0 < d)
    (hfit : d < 2 ^ 32) (hn : NoReset s n) (hd : d ≤ n) (ha : AtOp s i) (hE : s.opE = 0)
    (hf : (f s).rom = s.rom ∧ (f s).faulted = s.faulted ∧ (f s).upc = s.upc ∧ (f s).par = s.par)
    (hcongr : ∀ u, SameRegisters s u → SameRegisters (f s) (f u))
    (hexec : ∀ u, u.par = s.par → ∃ v, exec i u = .next v ∧ SameRegisters (if u.opE = 0 then f u else u) v ∧
      v.opE = (if u.opE.toNat + 1 = d then 0 else u.hold.opE) ∧
      v.upc = if u.opE.toNat + 1 = d then u.upc + 1 else u.upc) :
    ∀ k ≤ d, ∃ t, s.run k = .next t ∧ Counted (afterFirst f s k) d k t ∧ NoReset t (n - k) := by
  obtain ⟨hrom, hfault, hupc, hpar⟩ := hf
  refine State.run_counted hpos hfit hn hd ha hE rfl
    (fun k => by by_cases hk : k = 0 <;> simp [afterFirst, hk, hrom, hfault, hupc]) fun k u hk hsame hcount => ?_
  obtain ⟨v, hv, hregs, hseq⟩ := hexec u (hsame.par.trans (by by_cases hk : k = 0 <;> simp [afterFirst, hk, hpar]))
  refine ⟨v, hv, SameRegisters.trans ?_ hregs, hseq⟩
  rw [afterFirst_of_pos f s (Nat.succ_pos k)]
  rcases Nat.eq_zero_or_pos k with rfl | hlater
  · rw [if_pos (opE_eq_zero_iff.mpr hcount)]
    exact hcongr u hsame
  · rw [if_neg fun h => hlater.ne' (hcount.symm.trans (opE_eq_zero_iff.mp h))]
    rwa [afterFirst_of_pos f s hlater] at hsame

/-- What DHT_WAKE writes in its first step (R113). -/
def driveHigh (s : State) : State := { s with dhtOe := true, dhtO := true }

theorem run_dhtStart {s : State} {n : Nat} (hp : s.par = .hardware) (hn : NoReset s n) (hd : 18000 ≤ n)
    (ha : AtOp s .dhtStart) (hE : s.opE = 0) :
    ∀ k ≤ 18000, ∃ t, s.run k = .next t ∧ Counted (afterFirst State.startHandshake s k) 18000 k t ∧
      NoReset t (n - k) := by
  refine State.run_counted_first (by decide) (by decide) hn hd ha hE ⟨rfl, rfl, rfl, rfl⟩
    (fun u hu => by rw [hu]; rfl) fun u hu => ⟨_, exec_dhtStart u, ?_, by rw [hu, hp]; rfl, by rw [hu, hp]; rfl⟩
  by_cases hfirst : u.opE = 0
  · simp only [if_pos hfirst]; rfl
  · simp only [if_neg hfirst]; rfl

theorem run_dhtWake {s : State} {n : Nat} (hp : s.par = .hardware) (hn : NoReset s n) (hd : 40 ≤ n)
    (ha : AtOp s .dhtWake) (hE : s.opE = 0) :
    ∀ k ≤ 40, ∃ t, s.run k = .next t ∧ Counted (afterFirst driveHigh s k) 40 k t ∧ NoReset t (n - k) := by
  refine State.run_counted_first (by decide) (by decide) hn hd ha hE ⟨rfl, rfl, rfl, rfl⟩
    (fun u hu => by rw [hu]; rfl) fun u hu => ⟨_, exec_dhtWake u, ?_, by rw [hu, hp]; rfl, by rw [hu, hp]; rfl⟩
  by_cases hfirst : u.opE = 0
  · simp only [if_pos hfirst]; rfl
  · simp only [if_neg hfirst]; rfl

/-- At the end of a counting op the sequencer stands at the next op. -/
theorem Counted.atOp_next {r s u : State} {d : Nat} {i : Instr} (h : Counted r d d u) (hrom : r.rom = s.rom)
    (hf : r.faulted = false) (hupc : r.upc = s.upc) (hdec : decode (romWord s.rom (s.upc + 1)) = some i) :
    AtOp u i ∧ u.opE = 0 ∧ u.upc = s.upc + 1 := by
  obtain ⟨hsame, hat, hcount⟩ := h
  rw [if_pos rfl] at hat hcount
  exact ⟨atOp_of_decode (hsame.faulted.trans hf) (hsame.rom.trans hrom) (hat.trans (by rw [hupc])) hdec,
    opE_eq_zero_iff.mpr hcount, by rw [hat, hupc]⟩

/-- Settles O43: DHT_START for 18000 steps, DHT_WAKE for 40, and one of DHT_RELEASE. -/
theorem handshakeWaveform : Obligations.HandshakeWaveform := by
  intro s hp hn ha hE hwake hrelease k hk
  obtain ⟨t, hrun, hlow, hfree⟩ := run_dhtStart hp hn (by decide) ha hE 18000 le_rfl
  rw [afterFirst_of_pos _ s (by decide)] at hlow
  obtain ⟨hat, hE', hupc⟩ := hlow.atOp_next (s := s) rfl ha.1 rfl hwake
  have hpt : t.par = .hardware := hlow.1.par.trans hp
  obtain ⟨u, hrun', hhigh, hfree'⟩ := run_dhtWake hpt hfree (by decide) hat hE' 40 le_rfl
  rw [afterFirst_of_pos _ t (by decide)] at hhigh
  have hdec : decode (romWord t.rom (t.upc + 1)) = some .dhtRelease := by
    rw [hlow.1.rom, hupc, BitVec.add_assoc]
    exact hrelease
  obtain ⟨hat', hE'', hupc'⟩ := hhigh.atOp_next (s := t) rfl hat.1 rfl hdec
  rcases Nat.lt_or_ge 18000 k with hgt | hle
  · rcases Nat.lt_or_ge 18040 k with hlast | hle'
    · have hstep := step_of_atOp hfree'.now hat' (exec_dhtRelease u)
      have hlevel : u.dhtO = true := (congrArg State.dhtO hhigh.1).trans rfl
      obtain rfl : k = 18000 + 40 + 1 := by omega
      refine ⟨_, State.run_snoc (State.run_trans hrun hrun') hstep, by omega, by omega, fun _ => ⟨rfl, hlevel, ?_, rfl⟩⟩
      show u.upc + 1 = s.upc + 3
      rw [hupc', hupc, BitVec.add_assoc, BitVec.add_assoc]
      rfl
    · obtain ⟨v, hv, hline, -⟩ := run_dhtWake hpt hfree (by decide) hat hE' (k - 18000) (by omega)
      rw [afterFirst_of_pos _ t (by omega)] at hline
      refine ⟨v, ?_, by omega, fun _ => ⟨(congrArg State.dhtOe hline.1).trans rfl, (congrArg State.dhtO hline.1).trans rfl⟩,
        by omega⟩
      rw [show k = 18000 + (k - 18000) by omega, State.run_trans hrun hv]
  · obtain ⟨v, hv, hline, -⟩ := run_dhtStart hp hn (by decide) ha hE k hle
    refine ⟨v, hv, fun hpos => ?_, by omega, by omega⟩
    rw [afterFirst_of_pos _ s hpos.1] at hline
    exact ⟨(congrArg State.dhtOe hline.1).trans rfl, (congrArg State.dhtO hline.1).trans rfl⟩

/-! ## The alarm (R178, R179) -/

/-- The registers after `k` steps of the alarm: the fan off, the indicator lit and the pin at the level of step
`k - 1`. -/
def alarmAfter (s : State) (k : Nat) : State :=
  if k = 0 then s else { s with fanOn := false, led := true, alm := decide ((k - 1) % 300000 < 150000) }

theorem alarmAfter_succ (s : State) (k : Nat) :
    alarmAfter s (k + 1) = { s with fanOn := false, led := true, alm := decide (k % 300000 < 150000) } := by
  rw [alarmAfter, if_neg (Nat.succ_ne_zero k), Nat.add_sub_cancel]

theorem run_alarm {s : State} {n : Nat} (hp : s.par = .hardware) (hn : NoReset s n) (hd : 3000000 ≤ n)
    (ha : AtOp s .ctlEmpty) (hE : s.opE = 0) (hedge : s.emptyEdge = true) :
    ∀ k ≤ 3000000, ∃ t, s.run k = .next t ∧ Counted (alarmAfter s k) 3000000 k t ∧ NoReset t (n - k) := by
  refine State.run_counted (by decide) (by decide) hn hd ha hE rfl
    (fun k => by by_cases hk : k = 0 <;> simp [alarmAfter, hk]) fun k u hk hsame hcount => ?_
  have hpar : u.par = .hardware := hsame.par.trans (by by_cases hk : k = 0 <;> simp [alarmAfter, hk, hp])
  have hedge' : u.emptyEdge = true := by
    rw [hsame]
    by_cases hk : k = 0 <;> simpa [alarmAfter, hk, State.emptyEdge] using hedge
  have hsteps : u.par.tAlarmUs = 3000000 := by rw [hpar]; decide
  refine ⟨_, exec_ctlEmpty_alarm hedge', ?regs, by rw [hsteps], by rw [hsteps]⟩
  have hlevel : alarmLevel u.par u.opE.toNat = decide (k % 300000 < 150000) := by rw [hpar, hcount]; rfl
  rw [alarmAfter_succ, hlevel]
  cases k with
  | zero =>
    simp only [if_pos (opE_eq_zero_iff.mpr hcount)]
    rw [show alarmAfter s 0 = s from rfl] at hsame
    rw [hsame]
    rfl
  | succ k =>
    simp only [if_neg fun h => Nat.succ_ne_zero k (hcount.symm.trans (opE_eq_zero_iff.mp h))]
    rw [alarmAfter_succ] at hsame
    rw [hsame]
    rfl

/-- Settles O45: `run_alarm`, counted from the step before. -/
theorem alarmWaveform : Obligations.AlarmWaveform := by
  intro s hp hn ha hout hlast hE e he
  obtain ⟨t, hrun, ⟨hsame, hupc, hcount⟩, -⟩ :=
    run_alarm hp hn le_rfl ha hE (s.emptyEdge_iff.mpr ⟨hout, hlast⟩) (e + 1) he
  rw [alarmAfter_succ] at hsame hupc
  simp only [show (e + 1 = 3000000) = (e = 2999999) by simp] at hupc hcount
  exact ⟨t, hrun, by rw [SameRegisters, hupc] at hsame; exact hsame, hcount⟩

/-! ## The controller's ops of a tick (R182) -/

/-- One reset-free step of an op that ends with the registers `r`. -/
theorem run_one {r s v : State} {i : Instr} {n : Nat} (hn : NoReset s n) (hpos : 1 ≤ n) (ha : AtOp s i)
    (he : exec i s = .next v) (hr : SameRegisters r v) :
    ∃ t, s.run 1 = .next t ∧ NoReset t (n - 1) ∧ SameRegisters r t ∧ t.upc = v.upc ∧ t.opE = v.opE := by
  rw [← Nat.sub_add_cancel hpos] at hn
  have hstep := step_of_atOp hn.now ha he
  exact ⟨v.endStep, State.run_succ 0 hstep, hn.step hstep, hr.endStep, rfl, rfl⟩

/-- What CTL_EMPTY leaves, with the steps it takes: nothing changed in one step without the edge, and with it the alarm
over, the fan off and the indicator lit. -/
theorem run_ctlEmpty {s : State} {n d : Nat} (hp : s.par = .hardware) (hd : d = if s.emptyEdge then 3000000 else 1)
    (hn : NoReset s n) (hle : d ≤ n) (ha : AtOp s .ctlEmpty) (hE : s.opE = 0) :
    ∃ t, s.run d = .next t ∧ NoReset t (n - d) ∧ t.upc = s.upc + 1 ∧ t.opE = 0 ∧
      SameRegisters { s with
        fanOn := if s.emptyEdge then false else s.fanOn
        led := if s.emptyEdge then true else s.led
        alm := if s.emptyEdge then false else s.alm } t := by
  by_cases hedge : s.emptyEdge = true
  · simp only [if_pos hedge] at hd ⊢
    subst hd
    obtain ⟨t, hrun, hend, hfree⟩ := run_alarm hp hn hle ha hE hedge 3000000 le_rfl
    rw [alarmAfter_succ s 2999999, show decide (2999999 % 300000 < 150000) = false by decide] at hend
    obtain ⟨hsame, hupc, hcount⟩ := hend
    exact ⟨t, hrun, hfree, hupc, opE_eq_zero_iff.mpr hcount, hsame⟩
  · simp only [if_neg hedge] at hd ⊢
    subst hd
    obtain ⟨t, hrun, hfree, hsame, hupc, hE'⟩ := run_one hn hle ha (exec_ctlEmpty_idle hedge) (r := s) rfl
    exact ⟨t, hrun, hfree, hupc, hE', hsame⟩

/-! The rows of R182's table: what the fan, the indicator and the alarm come to after CTL_FAN, CTL_REFILL and
CTL_EMPTY, by the water state and the one before it. -/

theorem tick_fanOn {s : State} (hp : s.par = .hardware) :
    (if s.emptyEdge then false else if s.outOfWater then s.fanOn else s.below) =
      if s.outOfWater then s.lastOutOfWater && s.fanOn
      else decide (10 * (s.sumHum.toNat : Int) < 14 * ((s.setHum10.toNat : Int) - 20)) := by
  rw [State.below_eq, hp, State.emptyEdge]
  cases s.outOfWater <;> cases s.lastOutOfWater <;> rfl

theorem tick_led (s : State) :
    (if s.emptyEdge then true else if s.outOfWater = false ∧ s.lastOutOfWater = true then false else s.led) =
      if s.outOfWater = s.lastOutOfWater then s.led else s.outOfWater := by
  rw [State.emptyEdge]
  cases s.outOfWater <;> cases s.lastOutOfWater <;> rfl

/-- Settles O49: the four ops one after the other, and then the four rows of the table. -/
theorem tickControlTable : Obligations.TickControlTable := by
  intro s n hp hn ha hE hrefill hempty hcommit
  obtain ⟨d, hd⟩ : ∃ d, d = if s.emptyEdge then 3000000 else 1 := ⟨_, rfl⟩
  have hnd : n = 1 + (1 + (d + 1)) := by
    show (if s.emptyEdge = true then 3000003 else 4) = _
    rw [hd]
    split <;> rfl
  rw [hnd] at hn ⊢
  obtain ⟨t, hrun, hfree, hsame, hupc, -⟩ := run_one hn (by omega) ha (exec_ctlFan s)
    (r := { s with fanOn := if s.outOfWater then s.fanOn else s.below }) rfl
  obtain ⟨u, hrun', hfree', hsame', hupc', hE'⟩ := run_one hfree (by omega)
    (atOp_of_decode (hsame.faulted.trans ha.1) hsame.rom hupc hrefill) (exec_ctlRefill t)
    (r := { s with
      fanOn := if s.outOfWater then s.fanOn else s.below
      led := if s.outOfWater = false ∧ s.lastOutOfWater = true then false else s.led }) (by rw [hsame]; rfl)
  have hupcu : u.upc = s.upc + 2 := hupc'.trans (by rw [hupc]; exact BitVec.add_assoc s.upc 1 1)
  have hedge : u.emptyEdge = s.emptyEdge := by rw [hsame']; rfl
  obtain ⟨v, hrun2, hfree2, hupc2, hE2, hsame2⟩ := run_ctlEmpty (d := d) (hsame'.par.trans hp) (by rw [hd, hedge]) hfree'
    (by omega) (atOp_of_decode (hsame'.faulted.trans ha.1) hsame'.rom hupcu hempty) hE'
  have hupcv : v.upc = s.upc + 3 := hupc2.trans (by rw [hupcu]; exact BitVec.add_assoc s.upc 2 1)
  have hregs : SameRegisters { s with
      fanOn :=
        if s.outOfWater then s.lastOutOfWater && s.fanOn
        else decide (10 * (s.sumHum.toNat : Int) < 14 * ((s.setHum10.toNat : Int) - 20))
      led := if s.outOfWater = s.lastOutOfWater then s.led else s.outOfWater
      alm := if s.outOfWater && !s.lastOutOfWater then false else s.alm } v := by
    rw [← tick_fanOn hp, ← tick_led]
    rw [hedge, hsame'] at hsame2
    exact hsame2
  obtain ⟨w, hrun3, -, hsame3, hupc3, hE3⟩ := run_one hfree2 (by omega)
    (atOp_of_decode (hregs.faulted.trans ha.1) hregs.rom hupcv hcommit) (exec_ctlCommit v)
    (r := { v with lastOutOfWater := v.outOfWater }) rfl
  have hupcw : w.upc = s.upc + 4 := hupc3.trans (by rw [hupcv]; exact BitVec.add_assoc s.upc 3 1)
  refine ⟨w, State.run_trans hrun (State.run_trans hrun' (State.run_trans hrun2 hrun3)), ?_⟩
  rw [SameRegisters, hupcw, hE3, hregs] at hsame3
  exact hsame3

/-! ## A pass of the inner loop (45_timer_sequencer.md R217 (a)) -/

/-- Settles O50: DIAL_READ, the tick gate taken, WAIT POLL and the jump back. -/
theorem pollingPassTakes100003Steps : Obligations.PollingPassTakes100003Steps := by
  intro s hp hn hrom hf hupc hE hgate
  obtain ⟨t, hrun, hfree, hsame, hupct, -⟩ := run_one hn (by decide)
    (atOp_of_decode hf hrom hupc (by decide)) (exec_dialRead s) (r := { s with dial10 := s.pins.setIn }) rfl
  have hnot := hgate t hrun
  obtain ⟨u, hrun', hfree', hsame', hupcu, hE'⟩ := run_one hfree (by decide)
    (atOp_of_decode (k := 0x15) (hsame.faulted.trans hf) (hsame.rom.trans hrom) (hupct.trans (by simp [hupc])) (by decide))
    (exec_brNotElapsed 0x2B t) (hsame.trans rfl)
  have hupcu : u.upc = 0x2B := hupcu.trans (if_neg (by simp [hnot]))
  have hromu : u.rom = [] := hsame'.rom.trans hrom
  obtain ⟨v, hrun2, hend, hfree2⟩ := run_wait (w := .poll) (by rw [hsame'.par, show _ = Params.hardware from hp]; rfl)
    (by decide) (by decide) hfree' (by decide)
    (atOp_of_decode (hsame'.faulted.trans hf) hromu hupcu (by decide)) hE' 100000 le_rfl
  obtain ⟨hat, -, hupcv⟩ := hend.atOp_next (s := u) (i := .jmp 0x14) rfl (hsame'.faulted.trans hf) rfl
    (by rw [hromu, hupcu]; decide)
  obtain ⟨w, hrun3, -, hsame3, hupcw, hE3⟩ := run_one hfree2 (by decide) hat (exec_jmp 0x14 v)
    ((hsame'.trans hend.1).trans rfl)
  have hall : s.run 100003 = .next w :=
    State.run_trans hrun (State.run_trans hrun' (State.run_trans hrun2 hrun3))
  exact ⟨w, hall, hsame3.eq_of_seq (hupcw.trans hupc.symm) (hE3.trans hE.symm),
    (runOfStepsTakesThatManyMicroseconds 100003 s w hn hall).1⟩

end Sys2Proof.Machine

/-! PROOFS. DHT_SAMPLE as a whole (41_frame_decoder.md R117 to R122, R130): how long it takes, how many bits it leaves,
and the frame that a complete pulse train becomes. -/

namespace Sys2Proof.Machine

/-! ## Runs until something ends -/

/-- Reset-free steps that keep `P` or end in `Q` end in `Q` after at most `n` of them when `P` cannot last so long. -/
theorem State.run_until {P Q : Nat → State → Prop} {s : State} {n : Nat} (hn : NoReset s n) (h0 : P 0 s)
    (hend : ∀ u, ¬ P n u)
    (hstep : ∀ k u, P k u → u.pins.rst = false → ∃ v, step u = .next v ∧ (P (k + 1) v ∨ Q (k + 1) v)) :
    ∃ k t, k ≤ n ∧ s.run k = .next t ∧ Q k t ∧ ∀ j < k, ∃ u, s.run j = .next u ∧ P j u := by
  suffices h : ∀ m k u, k + m = n → NoReset u m → s.run k = .next u → P k u →
      (∀ j < k, ∃ u, s.run j = .next u ∧ P j u) →
      ∃ k t, k ≤ n ∧ s.run k = .next t ∧ Q k t ∧ ∀ j < k, ∃ u, s.run j = .next u ∧ P j u from
    h n 0 s (Nat.zero_add n) hn (State.run_zero s) h0 fun j hj => absurd hj (Nat.not_lt_zero j)
  intro m
  induction m with
  | zero =>
    intro k u hk _ _ hP _
    exact absurd (show P n u from hk ▸ hP) (hend u)
  | succ m ih =>
    intro k u hk hfree hrun hP hbefore
    obtain ⟨v, hv, hnext⟩ := hstep k u hP hfree.now
    have hrun' := State.run_snoc hrun hv
    have hbefore' : ∀ j < k + 1, ∃ u, s.run j = .next u ∧ P j u := fun j hj =>
      (Nat.lt_succ_iff_lt_or_eq.mp hj).elim (hbefore j) fun h => h ▸ ⟨u, hrun, hP⟩
    rcases hnext with hP' | hQ
    · exact ih (k + 1) v (by omega) (hfree.step hv) hrun' hP' hbefore'
    · exact ⟨k + 1, v, by omega, hrun', hQ, hbefore'⟩

/-! ## How long DHT_SAMPLE takes (R130) -/

/-- `k` steps into a DHT_SAMPLE started in `s`: each transition takes at least one step and at most 255. -/
structure SamplingFor (s : State) (k : Nat) (u : State) : Prop where
  par : u.par = .hardware
  atOp : AtOp u .dhtSample
  upc : u.upc = s.upc
  opE : u.opE.toNat = k
  index : u.decI.toNat ≤ 84
  count : u.decCnt.toNat ≤ 254
  atLeast : u.decI.toNat + u.decCnt.toNat ≤ k
  atMost : k ≤ 255 * u.decI.toNat + u.decCnt.toNat

/-- One more step of DHT_SAMPLE, or its last, which is not before the 85th. -/
theorem SamplingFor.step {s u v : State} {k : Nat} (h : SamplingFor s k u) (hr : u.pins.rst = false)
    (hv : exec .dhtSample u = .next v) :
    Machine.step u = .next v.endStep ∧
      (SamplingFor s (k + 1) v.endStep ∨ (85 ≤ k + 1 ∧ v.upc = s.upc + 1 ∧ v.opE = 0)) := by
  obtain ⟨hp, hat, hupc, hE, hi, hcnt, hlo, hhi⟩ := h
  refine ⟨step_of_atOp hr hat hv, ?_⟩
  have goesOn (hupc' : v.upc = u.upc) (hE' : v.opE.toNat = u.opE.toNat + 1) (hi' : v.decI.toNat ≤ 84)
      (hcnt' : v.decCnt.toNat ≤ 254) (hlo' : v.decI.toNat + v.decCnt.toNat ≤ k + 1)
      (hhi' : k + 1 ≤ 255 * v.decI.toNat + v.decCnt.toNat) : SamplingFor s (k + 1) v.endStep :=
    ⟨(exec_par hv).trans hp,
      ⟨(exec_faulted hv).trans hat.1, (State.fetch_congr (exec_rom hv) hupc').trans hat.2⟩, hupc'.trans hupc,
      hE'.trans (congrArg (· + 1) hE), hi', hcnt', hlo', hhi'⟩
  have ends (hlong : 85 ≤ k + 1) (hend : Completes u v) : 85 ≤ k + 1 ∧ v.upc = s.upc + 1 ∧ v.opE = 0 :=
    ⟨hlong, hend.2.trans (by rw [hupc]), hend.1⟩
  cases sampleStep_of_exec hp hi hcnt (by omega) hv with
  | counts hlt hcnt' hi' hE' hupc' _ _ =>
    rw [← BitVec.toNat_inj] at hi'
    exact .inl (goesOn hupc' hE' (by omega) (by omega) (by omega) (by omega))
  | timesOut hlast _ hend _ _ => exact .inr (ends (by omega) hend)
  | advances hlt hi' hcnt' hE' hupc' _ _ =>
    exact .inl (goesOn hupc' hE' (by omega) (by omega) (by omega) (by omega))
  | finishes hlast _ hend _ _ => exact .inr (ends (by omega) hend)

theorem samplingFor_zero {s : State} (hp : s.par = .hardware) (ha : AtOp s .dhtSample) (hE : s.opE = 0)
    (hi : s.decI = 0) (hcnt : s.decCnt = 0) : SamplingFor s 0 s := by
  have hi' : s.decI.toNat = 0 := congrArg BitVec.toNat hi
  have hcnt' : s.decCnt.toNat = 0 := congrArg BitVec.toNat hcnt
  exact ⟨hp, ha, rfl, opE_eq_zero_iff.mp hE, by omega, by omega, by omega, by omega⟩

theorem sampleCounters_zero {s : State} (hE : s.opE = 0) (hi : s.decI = 0) (hcnt : s.decCnt = 0) (hbits : s.bitcnt = 0)
    (hto : s.decTo = false) : SampleCounters s := by
  rw [SampleCounters, hE, hi, hcnt, hbits, hto]
  decide

/-- 85 transitions of at most 255 steps: DHT_SAMPLE cannot be running after 21675. -/
theorem SamplingFor.lt {s u : State} (h : SamplingFor s 21675 u) : False := by
  have := h.index
  have := h.count
  have := h.atMost
  omega

/-- Settles O46: DHT_SAMPLE runs (`SamplingFor`) until it completes, which it must within 21675 steps. -/
theorem samplingTakes85To21675Steps : Obligations.SamplingTakes85To21675Steps := by
  intro s hp hn ha hE hi hcnt
  obtain ⟨n, t, hle, hrun, ⟨hlong, hupc, hE'⟩, hbefore⟩ := State.run_until (P := SamplingFor s)
    (Q := fun k u => 85 ≤ k ∧ u.upc = s.upc + 1 ∧ u.opE = 0) hn (samplingFor_zero hp ha hE hi hcnt)
    (fun _ => SamplingFor.lt) fun k u hP hr => by
      obtain ⟨v, hv⟩ := exec_next .dhtSample u
      exact ⟨v.endStep, hP.step hr hv⟩
  refine ⟨n, t, hlong, hle, hrun, hupc, hE', fun k hk => ?_⟩
  obtain ⟨u, hrunu, hP⟩ := hbefore k hk
  exact ⟨u, hrunu, hP.upc, hP.opE⟩

/-- Settles O47: along the run one bit stands for each classified transition, and the last one is the 41st. -/
theorem shortFramesFollowATimeout : Obligations.ShortFramesFollowATimeout := by
  intro s hp hn ha hE hi hcnt hbits hto
  obtain ⟨n, t, hle, hrun, ⟨hupc, hE', hle', hfull⟩, hbefore⟩ := State.run_until
    (P := fun k u => SamplingFor s k u ∧ SampleCounters u)
    (Q := fun _ u => u.upc = s.upc + 1 ∧ u.opE = 0 ∧ u.bitcnt.toNat ≤ 41 ∧ (u.decTo = false → u.bitcnt.toNat = 41))
    hn ⟨samplingFor_zero hp ha hE hi hcnt, sampleCounters_zero hE hi hcnt hbits hto⟩ (fun _ h => h.1.lt) fun k u ⟨hP, hcounters⟩ hr => by
      obtain ⟨v, hv⟩ := exec_next .dhtSample u
      obtain ⟨hstep, hnext⟩ := hP.step hr hv
      refine ⟨v.endStep, hstep, ?_⟩
      rcases hcounters.of_exec hP.par hv with ⟨hcounters', -, hstay⟩ | ⟨⟨hzero, hupc⟩, -, hbits41, hfull⟩
      · rcases hnext with hP' | ⟨-, hgone, -⟩
        · exact .inl ⟨hP', hcounters'⟩
        · rw [hstay, hP.upc] at hgone
          exact absurd hgone (by bv_omega)
      · exact .inr ⟨hupc.trans (by rw [hP.upc]), hzero, hbits41, hfull⟩
  refine ⟨n, t, hle, hrun, hupc, hE', fun k hk => ?_, hle', hfull, fun hshort => ?_⟩
  · obtain ⟨u, hrunu, hP, -⟩ := hbefore k hk
    exact ⟨u, hrunu, hP.upc, hP.opE⟩
  · exact Bool.eq_true_of_not_eq_false fun hno => by have := hfull hno; omega

end Sys2Proof.Machine

/-! PROOFS. A complete pulse train becomes the frame (41_frame_decoder.md R119, R120, R122 (d)). -/

namespace Sys2Proof.Machine

/-! ## The levels a stretch of steps samples -/

/-- Each step moves every later input level one step nearer. -/
theorem step_pinsAt {s t : State} (h : step s = .next t) (k : Nat) : t.pinsAt k = s.pinsAt (k + 1) := by
  rw [← State.pinsAt_nextDraw]
  rcases step_cases h with ⟨-, rfl⟩ | ⟨-, -, rfl⟩ | ⟨-, -, -, rfl⟩ | ⟨-, i, u, -, hu, rfl⟩
  · exact State.pinsAt_congr rfl rfl k
  · exact State.pinsAt_congr rfl rfl k
  · exact State.pinsAt_congr rfl rfl k
  · obtain ⟨-, -, -, -, -, hscript, hdraws⟩ := opsLeaveTimeFaultAndRom i s u hu
    exact State.pinsAt_congr (congrArg List.tail hscript) (congrArg (· + 1) hdraws) k

/-- Reset stays away and the data line has the listed levels in the next steps. -/
def LineReads (s : State) (l : List Bool) : Prop :=
  ∀ k (h : k < l.length), (s.pinsAt k).rst = false ∧ (s.pinsAt k).dhtI = l[k]

theorem LineReads.head {s : State} {b : Bool} {l : List Bool} (h : LineReads s (b :: l)) :
    s.pins.rst = false ∧ s.pins.dhtI = b := h 0 (Nat.succ_pos _)

theorem LineReads.tail {s t : State} {b : Bool} {l : List Bool} (h : LineReads s (b :: l)) (hs : step s = .next t) :
    LineReads t l := fun k hk => by
  rw [step_pinsAt hs]
  exact h (k + 1) (Nat.succ_lt_succ hk)

/-! ## The bits a frame holds (R120) -/

theorem shiftIn_getLsbD (x : Byte) (b : Bool) (p : Nat) :
    (shiftIn x b).getLsbD p = if p = 0 then b else decide (p < 8) && x.getLsbD (p - 1) := by
  cases p with
  | zero => simp [shiftIn]
  | succ p => simp [shiftIn]

/-- The first `n` bits of the frame are `b 0`, `b 1`, …: bit `j` in byte `j` div 8, the last one shifted in at bit 0. -/
def FrameHolds (b : Nat → Bool) (n : Nat) (f : Vector Byte Config.FRAME_BYTES) : Prop :=
  ∀ j (h : j / 8 < 5), j < n → f[j / 8].getLsbD (min (n - 8 * (j / 8)) 8 - 1 - j % 8) = b j

/-- A bit shifted in is one more. -/
theorem FrameHolds.shift {b : Nat → Bool} {n : Nat} {f : Vector Byte Config.FRAME_BYTES} (h : FrameHolds b n f) :
    FrameHolds b (n + 1) (frameShift f (n / 8) (b n)) := by
  intro j hj hlt
  rw [frameShift_getElem]
  by_cases hbyte : j / 8 = n / 8
  · rw [if_pos hbyte, shiftIn_getLsbD]
    by_cases hnew : j = n
    · subst hnew
      rw [if_pos (by omega)]
    · have hold := h j hj (by omega)
      rw [if_neg (by omega), decide_eq_true (by omega), Bool.true_and, ← hold]
      congr 1
      omega
  · rw [if_neg hbyte, ← h j hj (by omega)]
    congr 1
    omega

/-! ## One transition of the train -/

/-- DHT_SAMPLE, started in `s`, stands in transition `i` with `m` samples counted, and the bits before it are in the
frame. -/
structure InTransition (s : State) (b : Nat → Bool) (i m : Nat) (u : State) : Prop where
  par : u.par = .hardware
  atOp : AtOp u .dhtSample
  upc : u.upc = s.upc
  counters : SampleCounters u
  index : u.decI.toNat = i
  count : u.decCnt.toNat = m
  level : u.decLast = (i % 2 == 0)
  frame : FrameHolds b (bitsBefore i) u.frame

/-- A sample at the transition's level is counted. -/
theorem InTransition.same {s u : State} {b : Nat → Bool} {i m : Nat} (h : InTransition s b i m u) (hm : m < 254)
    (hr : u.pins.rst = false) (hline : u.pins.dhtI = (i % 2 == 0)) :
    ∃ v, step u = .next v ∧ InTransition s b i (m + 1) v := by
  obtain ⟨hp, hat, hupc, hcounters, hi, hcnt, hlevel, hframe⟩ := h
  have hexec := exec_dhtSample_same (hline.trans hlevel.symm)
  have hmore : u.decCnt.toNat + 1 ≠ u.par.timeoutCount := by
    rw [hp, hcnt, show Params.hardware.timeoutCount = 255 from rfl]
    omega
  rcases hcounters.of_exec hp hexec with ⟨hcounters', -, -⟩ | ⟨⟨-, hgone⟩, -⟩
  · rw [State.sampleSame_more hmore] at hexec hcounters'
    refine ⟨_, step_of_atOp hr hat hexec, hp, hat, hupc, hcounters', hi, ?_, hlevel, hframe⟩
    rw [← hcnt]
    exact toNat_orFree_of_lt _ (by omega)
  · rw [State.sampleSame_more hmore] at hgone
    exact absurd hgone (by show u.upc ≠ u.upc + 1; bv_omega)

/-- The other level ends the transition, whose bit enters the frame where the transition carries one. -/
theorem InTransition.change {s u : State} {b : Nat → Bool} {i m : Nat} (h : InTransition s b i m u) (hi84 : i < 84)
    (hbit : 3 ≤ i → i % 2 = 0 → b (bitsBefore i) = decide (16 < m)) (hr : u.pins.rst = false)
    (hline : u.pins.dhtI = (i % 2 == 1)) : ∃ v, step u = .next v ∧ InTransition s b (i + 1) 0 v := by
  obtain ⟨hp, hat, hupc, hcounters, hi, hcnt, hlevel, hframe⟩ := h
  have hne : u.pins.dhtI ≠ u.decLast := by
    rw [hline, hlevel]
    rcases Nat.mod_two_eq_zero_or_one i with h2 | h2 <;> simp [h2]
  have hexec := exec_dhtSample_change hne
  have hmore : u.decI.toNat + 1 ≠ u.par.maxTimings := by
    rw [hp, hi, show Params.hardware.maxTimings = 85 from rfl]
    omega
  have hstay := (State.sampleChange_more u.pins.dhtI hmore).1
  have heq := u.sampleChange_eq u.pins.dhtI
  have hf := exec_faulted hexec
  have hp' := exec_par hexec
  have hrom := exec_rom hexec
  have hcounters' : SampleCounters (u.sampleChange u.pins.dhtI) := by
    rcases hcounters.of_exec hp hexec with ⟨hcounters', -⟩ | ⟨⟨-, hgone⟩, -⟩
    · exact hcounters'
    · exact absurd (hstay.symm.trans hgone) (by bv_omega)
  have hlevel' : (u.sampleChange u.pins.dhtI).decLast = ((i + 1) % 2 == 0) := by
    rw [heq, hline]
    rcases Nat.mod_two_eq_zero_or_one i with h2 | h2 <;> simp [h2, Nat.add_mod]
  have hcnt' : (u.sampleChange u.pins.dhtI).decCnt = 0 := (congrArg State.decCnt heq :)
  have hframe' : FrameHolds b (bitsBefore (i + 1)) (u.sampleChange u.pins.dhtI).frame := by
    rw [State.sampleChange_frame, bitsBefore_succ]
    by_cases hcarries : 3 ≤ i ∧ i % 2 = 0
    · have hroom : u.bitcnt.toNat < 40 := by
        rw [hcounters.bitcnt_eq, hi, bitsBefore]
        omega
      have hvalue : bitOfCount u.par u.decCnt.toNat = b (bitsBefore i) := by
        rw [hp, hcnt, hbit hcarries.1 hcarries.2]
        rfl
      have hshifted : (u.classify u.decCnt.toNat).frame = frameShift u.frame (bitsBefore i / 8) (b (bitsBefore i)) := by
        rw [← hvalue, ← hi, ← hcounters.bitcnt_eq]
        exact if_pos hroom
      rw [if_pos hcarries, if_pos ((carriesBit_iff _ _).mpr (by rw [hp, hi]; exact hcarries)), hshifted]
      exact hframe.shift
    · rw [if_neg hcarries, if_neg (mt (carriesBit_iff _ _).mp (by rw [hp, hi]; exact hcarries))]
      exact hframe
  have hi' := State.sampleChange_decI_toNat (s := u) u.pins.dhtI (by omega)
  generalize u.sampleChange u.pins.dhtI = v at hexec hstay hf hp' hrom hcounters' hlevel' hcnt' hframe' hi'
  exact ⟨v.endStep, step_of_atOp hr hat hexec, hp'.trans hp,
    ⟨hf.trans hat.1, (State.fetch_congr hrom hstay).trans hat.2⟩, hstay.trans hupc, hcounters', hi'.trans (by rw [hi]),
    congrArg BitVec.toNat hcnt', hlevel', hframe'⟩

/-- The last equal sample of a transition is the timeout, which leaves the frame and the bit count. -/
theorem InTransition.timeout {s u : State} {b : Nat → Bool} {i : Nat} (h : InTransition s b i 254 u)
    (hr : u.pins.rst = false) (hline : u.pins.dhtI = (i % 2 == 0)) :
    ∃ v, step u = .next v ∧ v.upc = s.upc + 1 ∧ v.opE = 0 ∧ v.bitcnt.toNat = bitsBefore i ∧ v.decTo = true ∧
      FrameHolds b (bitsBefore i) v.frame := by
  obtain ⟨hp, hat, hupc, hcounters, hi, hcnt, hlevel, hframe⟩ := h
  have hexec := exec_dhtSample_same (hline.trans hlevel.symm)
  rw [State.sampleSame_timeout (by rw [hp, hcnt]; rfl)] at hexec
  exact ⟨_, step_of_atOp hr hat hexec, congrArg (· + 1) hupc, rfl, hcounters.bitcnt_eq.trans (by rw [hi]), rfl, hframe⟩

/-! ## The train (R122 (d)) -/

/-- Equal samples one after the other. -/
theorem InTransition.run_same {s u : State} {b : Nat → Bool} {i n m : Nat} {rest : List Bool}
    (h : InTransition s b i m u) (hm : m + n ≤ 254) (hline : LineReads u (List.replicate n (i % 2 == 0) ++ rest)) :
    ∃ t, u.run n = .next t ∧ InTransition s b i (m + n) t ∧ LineReads t rest := by
  induction n generalizing u m with
  | zero => exact ⟨u, State.run_zero u, h, hline⟩
  | succ n ih =>
    obtain ⟨hr, hlevel⟩ := hline.head
    obtain ⟨v, hv, hnext⟩ := h.same (by omega) hr hlevel
    obtain ⟨t, hrun, hend, hrest⟩ := ih hnext (by omega) (hline.tail hv)
    exact ⟨t, (State.run_succ n hv).trans hrun, by rwa [Nat.add_right_comm, Nat.add_assoc] at hend, hrest⟩

/-- Transition `i` on the line: its equal samples and the change. -/
def transitionLevels (c : Nat → Nat) (i : Nat) : List Bool := List.replicate (c i) (i % 2 == 0) ++ [i % 2 == 1]

/-- The first `n` transitions of a train, from the start of transition 0. -/
theorem run_transitions {s : State} {b : Nat → Bool} {c : Nat → Nat} (hc : ∀ i < 84, c i ≤ 254)
    (hb : ∀ j < 40, b j = decide (16 < c (4 + 2 * j))) (h : InTransition s b 0 0 s) {n : Nat} (hn : n ≤ 84)
    {rest : List Bool} (hline : LineReads s ((List.range n).flatMap (transitionLevels c) ++ rest)) :
    ∃ t, s.run ((List.range n).flatMap (transitionLevels c)).length = .next t ∧ InTransition s b n 0 t ∧
      LineReads t rest := by
  induction n generalizing rest with
  | zero => exact ⟨s, State.run_zero s, h, hline⟩
  | succ n ih =>
    rw [List.range_succ, List.flatMap_append, List.flatMap_singleton, transitionLevels] at hline ⊢
    rw [List.append_assoc, List.append_assoc] at hline
    obtain ⟨t, hrun, ht, hline'⟩ := ih (by omega) hline
    obtain ⟨u, hrun', hu, hline''⟩ := ht.run_same (by have := hc n hn; omega) hline'
    obtain ⟨hr, hlevel⟩ := hline''.head
    have hbit : 3 ≤ n → n % 2 = 0 → b (bitsBefore n) = decide (16 < 0 + c n) := fun h3 h2 => by
      rw [hb _ (by unfold bitsBefore; omega), Nat.zero_add, show 4 + 2 * bitsBefore n = n by unfold bitsBefore; omega]
    obtain ⟨v, hv, hend⟩ := hu.change hn hbit hr hlevel
    refine ⟨v, ?_, hend, hline''.tail hv⟩
    rw [List.length_append, List.length_append, List.length_replicate, List.length_singleton]
    exact State.run_trans hrun (State.run_snoc hrun' hv)

/-- Settles O48: 84 transitions leave 40 bits in the frame, and 255 equal samples are the timeout. -/
theorem pulseTrainBecomesTheFrame : Obligations.PulseTrainBecomesTheFrame := by
  intro s c hp hc ha hE hi hcnt hlast hbits hto line hn hline
  have hreads : LineReads s line := fun k hk => ⟨hn k hk, (hline k hk).trans (List.getD_eq_getElem _ _ hk)⟩
  have hstart : InTransition s (fun j => decide (16 < c (4 + 2 * j))) 0 0 s := by
    have hi' : s.decI.toNat = 0 := congrArg BitVec.toNat hi
    have hcnt' : s.decCnt.toNat = 0 := congrArg BitVec.toNat hcnt
    exact ⟨hp, ha, rfl, sampleCounters_zero hE hi hcnt hbits hto, hi', hcnt', hlast, fun j _ h => absurd h (Nat.not_lt_zero j)⟩
  obtain ⟨t, hrun, ht, hrest⟩ := run_transitions hc (fun _ _ => rfl) hstart le_rfl hreads
  rw [show (255 : Nat) = 254 + 1 from rfl, List.replicate_succ'] at hrest
  obtain ⟨u, hrun', hu, hrest'⟩ := ht.run_same (n := 254) le_rfl hrest
  obtain ⟨hr, hlevel⟩ := hrest'.head
  obtain ⟨v, hv, hupc, hE', hbits', hto', hframe⟩ := hu.timeout hr hlevel
  have hfull : bitsBefore 84 = 40 := by decide
  rw [hfull] at hbits' hframe
  refine ⟨v, ?_, hupc, hE', hbits', hto', fun j => ?_⟩
  · have hlen : line.length = ((List.range 84).flatMap (transitionLevels c)).length + (254 + 1) := by
      rw [List.length_append, List.length_replicate]
      rfl
    rw [hlen]
    exact State.run_trans hrun (State.run_snoc hrun' hv)
  · have hj := j.isLt
    have hbit := hframe j (by omega) hj
    rw [show min (40 - 8 * (j.val / 8)) 8 - 1 - j.val % 8 = 7 - j.val % 8 by omega] at hbit
    exact hbit

end Sys2Proof.Machine
